-- ==== Sys2Proof/Word.lean ====
section
/-! DEFINITION. The widths of the block (R8) and its two-valued wire symbol (R10). -/

namespace Sys2Proof

/-- A host register, and every value on the host port's data pins (R8: 32 bits). -/
abbrev Word := BitVec 32

/-- A payload byte (R16), and the host port's offset (R8: 8 bits). -/
abbrev Byte := BitVec 8

/-- A wire symbol or a one-bit flag: `false` is the integer 0 and `true` the integer 1 (R10). -/
abbrev Bit := Bool

/-- DOMINANT is bit value 0 (R10). -/
abbrev dominant : Bit := false

/-- RECESSIVE is bit value 1 (R10). -/
abbrev recessive : Bit := true

/-- `zext_32` of a one-bit value (R10). -/
abbrev bitWord (b : Bit) : Word := BitVec.setWidth 32 (BitVec.ofBool b)

end Sys2Proof
end

