-- ==== Sys2Proof/Syntax.lean ====
section
/-! DEFINITION. The instructions: one constructor for each row of spec/opcode_table.json (R67, R70). An operand is
what the encoding leaves free and the spec gives a use or a name: the value written, the opcode of a reserved row, the
offset of an unmapped row. Bits the spec calls ignored (`CMD[31:4]`, `addr[1:0]`) are no operand (log 7). -/

namespace Sys2Proof

/-- One host command (format `CMD32`, R66) or one host register access (format `HOSTACC`, R70). -/
inductive Instr where
  /-- `NOP` (CMD32 0x0/0xF, R86). -/
  | nop
  /-- `START` (CMD32 0x1/0xF, R87). -/
  | start
  /-- `STOP` (CMD32 0x2/0xF, R88). -/
  | stop
  /-- `ENQUEUE` (CMD32 0x3/0xF, R89). -/
  | enqueue
  /-- `RESERVED_OP_4_7` (CMD32 0x4/0xC, R90). -/
  | reservedOp47 (op : BitVec 4)
  /-- `RESERVED_OP_8_F` (CMD32 0x8/0x8, R90). -/
  | reservedOp8F (op : BitVec 4)
  /-- `RD_TX_ID` (HOSTACC 0x000/0x1FC, R94). -/
  | rdTxId
  /-- `WR_TX_ID` (HOSTACC 0x100/0x1FC, R95). -/
  | wrTxId (v : Word)
  /-- `RD_TX_FMT` (HOSTACC 0x004/0x1FC, R94). -/
  | rdTxFmt
  /-- `WR_TX_FMT` (HOSTACC 0x104/0x1FC, R95). -/
  | wrTxFmt (v : Word)
  /-- `RD_TX_DATA0` (HOSTACC 0x008/0x1FC, R94). -/
  | rdTxData0
  /-- `WR_TX_DATA0` (HOSTACC 0x108/0x1FC, R95). -/
  | wrTxData0 (v : Word)
  /-- `RD_TX_DATA1` (HOSTACC 0x00C/0x1FC, R94). -/
  | rdTxData1
  /-- `WR_TX_DATA1` (HOSTACC 0x10C/0x1FC, R95). -/
  | wrTxData1 (v : Word)
  /-- `RD_CMD` (HOSTACC 0x010/0x1FC, R96). -/
  | rdCmd
  /-- `WR_CMD` (HOSTACC 0x110/0x1FC, R97). -/
  | wrCmd (v : Word)
  /-- `RD_RESULT` (HOSTACC 0x014/0x1FC, R98). -/
  | rdResult
  /-- `RD_STATUS` (HOSTACC 0x018/0x1FC, R98). -/
  | rdStatus
  /-- `RD_BIT_TIME` (HOSTACC 0x01C/0x1FC, R99). -/
  | rdBitTime
  /-- `WR_BIT_TIME` (HOSTACC 0x11C/0x1FC, R99). -/
  | wrBitTime (v : Word)
  /-- `RD_QCOUNT` (HOSTACC 0x020/0x1FC, R100). -/
  | rdQcount
  /-- `RD_HIST_COUNT` (HOSTACC 0x024/0x1FC, R100). -/
  | rdHistCount
  /-- `RD_HIST_INDEX` (HOSTACC 0x028/0x1FC, R101). -/
  | rdHistIndex
  /-- `WR_HIST_INDEX` (HOSTACC 0x128/0x1FC, R101). -/
  | wrHistIndex (v : Word)
  /-- `RD_HIST_ID` (HOSTACC 0x02C/0x1FC, R102). -/
  | rdHistId
  /-- `RD_HIST_FMT` (HOSTACC 0x030/0x1FC, R102). -/
  | rdHistFmt
  /-- `RD_HIST_DATA0` (HOSTACC 0x034/0x1FC, R102). -/
  | rdHistData0
  /-- `RD_HIST_DATA1` (HOSTACC 0x038/0x1FC, R102). -/
  | rdHistData1
  /-- `RD_HIST_TS_LO` (HOSTACC 0x03C/0x1FC, R102). -/
  | rdHistTsLo
  /-- `RD_HIST_TS_HI` (HOSTACC 0x040/0x1FC, R102). -/
  | rdHistTsHi
  /-- `RD_TIME_LO` (HOSTACC 0x044/0x1FC, R103). -/
  | rdTimeLo
  /-- `RD_TIME_HI` (HOSTACC 0x048/0x1FC, R103). -/
  | rdTimeHi
  /-- `RD_SEQ` (HOSTACC 0x04C/0x1FC, R104). -/
  | rdSeq
  /-- `WR_RESULT_IGNORED` (HOSTACC 0x114/0x1FC, R105). -/
  | wrResultIgnored (v : Word)
  /-- `WR_STATUS_IGNORED` (HOSTACC 0x118/0x1FC, R105). -/
  | wrStatusIgnored (v : Word)
  /-- `WR_QCOUNT_IGNORED` (HOSTACC 0x120/0x1FC, R105). -/
  | wrQcountIgnored (v : Word)
  /-- `WR_HIST_COUNT_IGNORED` (HOSTACC 0x124/0x1FC, R105). -/
  | wrHistCountIgnored (v : Word)
  /-- `WR_HIST_ID_IGNORED` (HOSTACC 0x12C/0x1FC, R105). -/
  | wrHistIdIgnored (v : Word)
  /-- `WR_HIST_FMT_IGNORED` (HOSTACC 0x130/0x1FC, R105). -/
  | wrHistFmtIgnored (v : Word)
  /-- `WR_HIST_DATA0_IGNORED` (HOSTACC 0x134/0x1FC, R105). -/
  | wrHistData0Ignored (v : Word)
  /-- `WR_HIST_DATA1_IGNORED` (HOSTACC 0x138/0x1FC, R105). -/
  | wrHistData1Ignored (v : Word)
  /-- `WR_HIST_TS_LO_IGNORED` (HOSTACC 0x13C/0x1FC, R105). -/
  | wrHistTsLoIgnored (v : Word)
  /-- `WR_HIST_TS_HI_IGNORED` (HOSTACC 0x140/0x1FC, R105). -/
  | wrHistTsHiIgnored (v : Word)
  /-- `WR_TIME_LO_IGNORED` (HOSTACC 0x144/0x1FC, R105). -/
  | wrTimeLoIgnored (v : Word)
  /-- `WR_TIME_HI_IGNORED` (HOSTACC 0x148/0x1FC, R105). -/
  | wrTimeHiIgnored (v : Word)
  /-- `WR_SEQ_IGNORED` (HOSTACC 0x14C/0x1FC, R105). -/
  | wrSeqIgnored (v : Word)
  /-- `RD_UNMAPPED_50_5F` (HOSTACC 0x050/0x1F0, R106). -/
  | rdUnmapped505F (off : Byte)
  /-- `WR_UNMAPPED_50_5F` (HOSTACC 0x150/0x1F0, R105). -/
  | wrUnmapped505F (off : Byte) (v : Word)
  /-- `RD_UNMAPPED_60_7F` (HOSTACC 0x060/0x1E0, R106). -/
  | rdUnmapped607F (off : Byte)
  /-- `WR_UNMAPPED_60_7F` (HOSTACC 0x160/0x1E0, R105). -/
  | wrUnmapped607F (off : Byte) (v : Word)
  /-- `RD_UNMAPPED_80_FF` (HOSTACC 0x080/0x180, R106). -/
  | rdUnmapped80FF (off : Byte)
  /-- `WR_UNMAPPED_80_FF` (HOSTACC 0x180/0x180, R105). -/
  | wrUnmapped80FF (off : Byte) (v : Word)
deriving DecidableEq, Repr

end Sys2Proof
end

