-- ==== Sys2Proof/WellFormed.lean ====
section
/-! DEFINITION. Which terms of `Instr` the encodings of R67 and R70 can express: a reserved row's opcode and an
unmapped row's offset lie in the range the row's mask and match give, and an offset is a word offset (R49). Every
other operand fills its field, so it needs no check. -/

namespace Sys2Proof

/-- An opcode-table row's test: the masked bits equal the match. -/
def rowMatches {w : Nat} (mask matched value : BitVec w) : Bool := value &&& mask == matched

/-- A word offset inside an unmapped row: the row's own test, and `addr[1:0]` clear (R49). -/
def unmappedOffset (mask matched off : Byte) : Bool :=
  rowMatches mask matched off && rowMatches 0x03 0x00 off

/-- The well-formed instructions: exactly those that a word of R67 or R70 encodes. -/
def Instr.wellFormed : Instr → Bool
  | .reservedOp47 op => rowMatches 0xC 0x4 op
  | .reservedOp8F op => rowMatches 0x8 0x8 op
  | .rdUnmapped505F off => unmappedOffset 0xF0 0x50 off
  | .wrUnmapped505F off _ => unmappedOffset 0xF0 0x50 off
  | .rdUnmapped607F off => unmappedOffset 0xE0 0x60 off
  | .wrUnmapped607F off _ => unmappedOffset 0xE0 0x60 off
  | .rdUnmapped80FF off => unmappedOffset 0x80 0x80 off
  | .wrUnmapped80FF off _ => unmappedOffset 0x80 0x80 off
  | .nop => true
  | .start => true
  | .stop => true
  | .enqueue => true
  | .rdTxId => true
  | .wrTxId _ => true
  | .rdTxFmt => true
  | .wrTxFmt _ => true
  | .rdTxData0 => true
  | .wrTxData0 _ => true
  | .rdTxData1 => true
  | .wrTxData1 _ => true
  | .rdCmd => true
  | .wrCmd _ => true
  | .rdResult => true
  | .rdStatus => true
  | .rdBitTime => true
  | .wrBitTime _ => true
  | .rdQcount => true
  | .rdHistCount => true
  | .rdHistIndex => true
  | .wrHistIndex _ => true
  | .rdHistId => true
  | .rdHistFmt => true
  | .rdHistData0 => true
  | .rdHistData1 => true
  | .rdHistTsLo => true
  | .rdHistTsHi => true
  | .rdTimeLo => true
  | .rdTimeHi => true
  | .rdSeq => true
  | .wrResultIgnored _ => true
  | .wrStatusIgnored _ => true
  | .wrQcountIgnored _ => true
  | .wrHistCountIgnored _ => true
  | .wrHistIdIgnored _ => true
  | .wrHistFmtIgnored _ => true
  | .wrHistData0Ignored _ => true
  | .wrHistData1Ignored _ => true
  | .wrHistTsLoIgnored _ => true
  | .wrHistTsHiIgnored _ => true
  | .wrTimeLoIgnored _ => true
  | .wrTimeHiIgnored _ => true
  | .wrSeqIgnored _ => true

end Sys2Proof
end

