-- ==== Sys2Proof/Decode.lean ====
section
/-! DEFINITION. Decoding (R66, R67, R70), total on every word of the two formats, and the encoder beside it. -/

namespace Sys2Proof

/-- What the host port carries for one access: `we`, `addr[7:0]`, `wdata[31:0]` (R46). -/
structure Access where
  we : Bit
  addr : Byte
  wdata : Word
deriving DecidableEq, Repr

/-- `addr[1:0]` are ignored: an access to `a` is an access to `a & 0xFC` (R49). -/
def wordOffset (addr : Byte) : Byte := addr &&& 0xFC

/-- The `HOSTACC` key `(we << 8) | addr` (R70). -/
def Access.key (a : Access) : BitVec 9 :=
  (BitVec.ofBool a.we).setWidth 9 <<< 8 ||| a.addr.setWidth 9

/-- The access with a given `HOSTACC` key (R70). -/
def Access.ofKey (key : BitVec 9) (wdata : Word) : Access :=
  { we := key.getLsbD 8, addr := key.setWidth 8, wdata }

/-- The read rows (`we = 0`) by word offset (R30, R70, R106). -/
def decodeRead (off : Byte) : Instr :=
  match off.toNat with
  | 0x00 => .rdTxId
  | 0x04 => .rdTxFmt
  | 0x08 => .rdTxData0
  | 0x0C => .rdTxData1
  | 0x10 => .rdCmd
  | 0x14 => .rdResult
  | 0x18 => .rdStatus
  | 0x1C => .rdBitTime
  | 0x20 => .rdQcount
  | 0x24 => .rdHistCount
  | 0x28 => .rdHistIndex
  | 0x2C => .rdHistId
  | 0x30 => .rdHistFmt
  | 0x34 => .rdHistData0
  | 0x38 => .rdHistData1
  | 0x3C => .rdHistTsLo
  | 0x40 => .rdHistTsHi
  | 0x44 => .rdTimeLo
  | 0x48 => .rdTimeHi
  | 0x4C => .rdSeq
  | o => if o < 0x60 then .rdUnmapped505F off else if o < 0x80 then .rdUnmapped607F off else .rdUnmapped80FF off

/-- The write rows (`we = 1`) by word offset (R30, R70, R105). -/
def decodeWrite (off : Byte) (v : Word) : Instr :=
  match off.toNat with
  | 0x00 => .wrTxId v
  | 0x04 => .wrTxFmt v
  | 0x08 => .wrTxData0 v
  | 0x0C => .wrTxData1 v
  | 0x10 => .wrCmd v
  | 0x14 => .wrResultIgnored v
  | 0x18 => .wrStatusIgnored v
  | 0x1C => .wrBitTime v
  | 0x20 => .wrQcountIgnored v
  | 0x24 => .wrHistCountIgnored v
  | 0x28 => .wrHistIndex v
  | 0x2C => .wrHistIdIgnored v
  | 0x30 => .wrHistFmtIgnored v
  | 0x34 => .wrHistData0Ignored v
  | 0x38 => .wrHistData1Ignored v
  | 0x3C => .wrHistTsLoIgnored v
  | 0x40 => .wrHistTsHiIgnored v
  | 0x44 => .wrTimeLoIgnored v
  | 0x48 => .wrTimeHiIgnored v
  | 0x4C => .wrSeqIgnored v
  | o =>
    if o < 0x60 then .wrUnmapped505F off v else if o < 0x80 then .wrUnmapped607F off v else .wrUnmapped80FF off v

/-- The row of a host-port access (R70). Total: every key has exactly one row. -/
def decodeAccess (a : Access) : Instr :=
  if a.we then decodeWrite (wordOffset a.addr) a.wdata else decodeRead (wordOffset a.addr)

/-- The opcode field `OP` of a command word: bits [3:0] (R66). -/
def opcodeField (v : Word) : BitVec 4 := v.extractLsb' 0 4

/-- The row of a command word (R67). Total; bits [31:4] are ignored (R66). -/
def decodeCommand (v : Word) : Instr :=
  match (opcodeField v).toNat with
  | 0x0 => .nop
  | 0x1 => .start
  | 0x2 => .stop
  | 0x3 => .enqueue
  | o => if o < 0x8 then .reservedOp47 (opcodeField v) else .reservedOp8F (opcodeField v)

/-- A word of one of the two formats of the opcode table. -/
inductive TableWord where
  /-- `CMD32`: the value written to `CMD` (R66). -/
  | cmd32 (v : Word)
  /-- `HOSTACC`: the 9-bit key (R70), and the `wdata` presented with it. -/
  | hostAcc (key : BitVec 9) (wdata : Word)
deriving DecidableEq, Repr

/-- The instruction of a word. -/
def decode : TableWord → Instr
  | .cmd32 v => decodeCommand v
  | .hostAcc key wdata => decodeAccess (.ofKey key wdata)

/-- The host-port access that presents a word to the block: a command word is written to `CMD`, offset 0x10
(R66, R97). -/
def TableWord.access : TableWord → Access
  | .cmd32 v => { we := true, addr := 0x10, wdata := v }
  | .hostAcc key wdata => .ofKey key wdata

/-- Why a bit pattern is no word of either format. -/
inductive DecodeRejection where
  /-- It has no bits, or more than a `HOSTACC` key and its `wdata` have. -/
  | noSuchLength
  /-- A bit outside the pattern's stated length, or one of key bits [15:9], is set. -/
  | strayBits
deriving DecidableEq, Repr

/-- A bit pattern numbered as the opcode table numbers it, read as a word (log 7): up to 8 bits, or exactly 32, are a
`CMD32` value; any other length up to 48 bits is a `HOSTACC` key in bits [8:0] with its `wdata` in bits [47:16]. -/
def TableWord.ofBits (nbits w : Nat) : Except DecodeRejection TableWord :=
  if nbits = 0 ∨ 48 < nbits then .error .noSuchLength
  else if 2 ^ nbits ≤ w then .error .strayBits
  else if nbits ≤ 8 ∨ nbits = 32 then .ok (.cmd32 (BitVec.ofNat 32 w))
  else if 2 ^ 9 ≤ w % 2 ^ 16 then .error .strayBits
  else .ok (.hostAcc (BitVec.ofNat 9 (w % 2 ^ 16)) (BitVec.ofNat 32 (w / 2 ^ 16)))

/-- The instruction a bit pattern of the opcode table stands for, or the reason there is none. -/
def decodeBits (nbits w : Nat) : Except DecodeRejection Instr :=
  match TableWord.ofBits nbits w with
  | .ok t => .ok (decode t)
  | .error r => .error r

/-- The instruction the decoder reads from the table's bits; `none` where it refuses. -/
def decodeTableWord (nbits w : Nat) : Option Instr :=
  match decodeBits nbits w with
  | .ok i => some i
  | .error _ => none

/-- A read row's word: `we = 0` at a word offset. -/
def readWord (off : Byte) : TableWord := .hostAcc (Access.key { we := false, addr := off, wdata := 0 }) 0

/-- A write row's word: `we = 1` at a word offset, with its `wdata`. -/
def writeWord (off : Byte) (v : Word) : TableWord := .hostAcc (Access.key { we := true, addr := off, wdata := v }) v

/-- A command's word: the opcode in bits [3:0], the ignored bits clear (R66). -/
def commandWord (op : BitVec 4) : TableWord := .cmd32 (op.setWidth 32)

/-- The canonical word of an instruction: R67's opcode, or R70's key at R30's offset; every ignored bit is 0. -/
def encode : Instr → TableWord
  | .nop => commandWord 0x0
  | .start => commandWord 0x1
  | .stop => commandWord 0x2
  | .enqueue => commandWord 0x3
  | .reservedOp47 op => commandWord op
  | .reservedOp8F op => commandWord op
  | .rdTxId => readWord 0x00
  | .rdTxFmt => readWord 0x04
  | .rdTxData0 => readWord 0x08
  | .rdTxData1 => readWord 0x0C
  | .rdCmd => readWord 0x10
  | .rdResult => readWord 0x14
  | .rdStatus => readWord 0x18
  | .rdBitTime => readWord 0x1C
  | .rdQcount => readWord 0x20
  | .rdHistCount => readWord 0x24
  | .rdHistIndex => readWord 0x28
  | .rdHistId => readWord 0x2C
  | .rdHistFmt => readWord 0x30
  | .rdHistData0 => readWord 0x34
  | .rdHistData1 => readWord 0x38
  | .rdHistTsLo => readWord 0x3C
  | .rdHistTsHi => readWord 0x40
  | .rdTimeLo => readWord 0x44
  | .rdTimeHi => readWord 0x48
  | .rdSeq => readWord 0x4C
  | .wrTxId v => writeWord 0x00 v
  | .wrTxFmt v => writeWord 0x04 v
  | .wrTxData0 v => writeWord 0x08 v
  | .wrTxData1 v => writeWord 0x0C v
  | .wrCmd v => writeWord 0x10 v
  | .wrResultIgnored v => writeWord 0x14 v
  | .wrStatusIgnored v => writeWord 0x18 v
  | .wrBitTime v => writeWord 0x1C v
  | .wrQcountIgnored v => writeWord 0x20 v
  | .wrHistCountIgnored v => writeWord 0x24 v
  | .wrHistIndex v => writeWord 0x28 v
  | .wrHistIdIgnored v => writeWord 0x2C v
  | .wrHistFmtIgnored v => writeWord 0x30 v
  | .wrHistData0Ignored v => writeWord 0x34 v
  | .wrHistData1Ignored v => writeWord 0x38 v
  | .wrHistTsLoIgnored v => writeWord 0x3C v
  | .wrHistTsHiIgnored v => writeWord 0x40 v
  | .wrTimeLoIgnored v => writeWord 0x44 v
  | .wrTimeHiIgnored v => writeWord 0x48 v
  | .wrSeqIgnored v => writeWord 0x4C v
  | .rdUnmapped505F off => readWord off
  | .wrUnmapped505F off v => writeWord off v
  | .rdUnmapped607F off => readWord off
  | .wrUnmapped607F off v => writeWord off v
  | .rdUnmapped80FF off => readWord off
  | .wrUnmapped80FF off v => writeWord off v

/-- A word with every bit the spec calls ignored cleared: `CMD[31:4]` (R66), `addr[1:0]` (R49), and the `wdata`
beside a read, which R46 does not use. -/
def TableWord.canonical : TableWord → TableWord
  | .cmd32 v => commandWord (opcodeField v)
  | .hostAcc key wdata =>
    if key.getLsbD 8 then writeWord (wordOffset (key.setWidth 8)) wdata else readWord (wordOffset (key.setWidth 8))

end Sys2Proof
end

