-- ==== Sys2Proof/Config.lean ====
section
/-! DEFINITION. The parameters the spec leaves open (R7, R52), as one constant that nothing can evaluate. -/

namespace Sys2Proof

/-- The domain of `QUEUE_DEPTH` and `HIST_DEPTH` (R7): `UNBOUNDED`, or an integer 1 to 2^32-1. -/
inductive Depth where
  | unbounded
  | bounded (n : Nat) (pos : 1 ≤ n) (le : n ≤ 4294967295)
deriving DecidableEq, Repr, Inhabited

/-- The positive reals, the domain of `F_CLK` (R7): a nonnegative real has an inverse exactly when it is positive
(`PositiveReal.toReal_pos`, `PositiveReal.exists_toReal_eq`). -/
abbrev PositiveReal := NNRealˣ

/-- The real number that a positive real is. -/
def PositiveReal.toReal (x : PositiveReal) : ℝ := x.val.val

/-- The implementation parameters (R7) and the platform's base address (R52). -/
structure Config where
  /-- `QUEUE_DEPTH`: the capacity of the pending queue in frames (R7, R21). -/
  queueDepth : Depth
  /-- `HIST_DEPTH`: the capacity of the history in frames (R7, R22). -/
  histDepth : Depth
  /-- `BIT_TIME_RESET`: the reset value of `BIT_TIME` (R7, R37). -/
  bitTimeReset : Word
  /-- `F_CLK` in Hz (R7: "positive real"); no rule reads it. -/
  fClk : PositiveReal
  /-- `BASE_ADDR`: the system address of offset 0 (R52); no rule reads it. -/
  baseAddr : Nat
deriving Inhabited

/-- R7's domains, parameter by parameter. The types of the fields allow nothing else (`Config.inDomain`). -/
def Config.InDomain (c : Config) : Prop :=
  (∀ n h1 h2, c.queueDepth = .bounded n h1 h2 → 1 ≤ n ∧ n ≤ 2 ^ 32 - 1) ∧
  (∀ n h1 h2, c.histDepth = .bounded n h1 h2 → 1 ≤ n ∧ n ≤ 2 ^ 32 - 1) ∧
  c.bitTimeReset.toNat ≤ 2 ^ 32 - 1 ∧ 0 < c.fClk.toReal

/-- "One bit lasts `P / F_CLK` seconds" (R112, R154). No definition of the machine uses it. -/
def Config.bitLasts (c : Config) (period : Word) (seconds : ℝ) : Prop :=
  seconds * c.fClk.toReal = period.toNat

/-- The parameters of this block: every value in R7's domain is possible, and no value can be proved of them
(log 3). The shared operations take a `Config` as an argument, as R7 asks, and the meanings apply them to this one. -/
opaque Config.params : Config

end Sys2Proof
end

