-- ==== Sys2Proof/Machine/State.lean ====
section
/-! DEFINITION. The state of the block (R16, R19), what stops a step, and the state after a reset edge (R140). -/

namespace Sys2Proof.Machine

/-- R126: "The block has no traps." No command, register access or sequencer step faults, so there is no constructor:
nothing raises a fault (safe: the type says that no step can end in one). -/
inductive Fault
deriving DecidableEq, Repr

/-- Why a step has no meaning. No state reachable from reset raises one of these. -/
inductive Refusal where
  /-- Raised by no arm of `exec`: every instruction has its meaning. An arm without one would answer this (safe: the
  machine stops where the hardware goes on). -/
  | notModelled (mnemonic : String)
  /-- Raised by the sequencer and by a read of `SEQ` when `encode` would be applied to a record that R17 calls
  invalid. R84: "applying `encode` to it is a refusal, not a value" (safe: unreachable, log 5). -/
  | invalidRecord
  /-- Raised by the sequencer and by a read of `SEQ` when `BUSY = 1` and `TXF` is none, which R24 says never is (safe:
  unreachable, log 5). -/
  | noFrameInFlight
deriving DecidableEq, Repr

/-- `RUN_STATE` (R23). Its value 3 "is never held" and is not expressible (log 6). -/
inductive RunState where
  | stopped
  | running
  | stopping
deriving DecidableEq, Repr

/-- The codes of `RESULT.CODE` (R68). Codes 7 to 15 are "never produced" and are not expressible (log 6). -/
inductive ResultCode where
  | ok
  | errDlc
  | errStdRange
  | errExtRange
  | errQFull
  | errBusy
  | errBadCmd
deriving DecidableEq, Repr

/-- A frame record (R16): what `QUEUE`, `TXF` and `HIST` hold. -/
structure FrameRecord where
  /-- The arbitration identifier. -/
  id : BitVec 29
  /-- 1 for an extended frame, 0 for a standard one. -/
  ext : Bit
  /-- The payload length in bytes. -/
  dlc : BitVec 4
  /-- `payload[0..7]`; bytes at index `dlc` and above are 0. -/
  payload : Vector Byte 8
  /-- The creation timestamp. -/
  ts : BitVec 64
deriving DecidableEq, Repr

/-- The input pins of one rising edge (R5). -/
structure Pins where
  rst : Bit
  req : Bit
  we : Bit
  addr : Byte
  wdata : Word
deriving DecidableEq, Repr

/-- The state of the block: the elements of R19, the port output `rdata` (R5), and the model's own `inputs`. -/
structure State where
  /-- `TX_ID` (R31). -/
  txId : Word
  /-- `TX_FMT.DLC` (R32). -/
  txDlc : BitVec 4
  /-- `TX_FMT.EXT` (R32). -/
  txExt : Bit
  /-- `TX_DATA0` (R33). -/
  txData0 : Word
  /-- `TX_DATA1` (R33). -/
  txData1 : Word
  /-- `RESULT.CODE` (R35). -/
  result : ResultCode
  /-- `RUN_STATE` (R23). -/
  runState : RunState
  /-- `LEVEL`, the bus-state register and the output `bus_tx` (R20). -/
  level : Bit
  /-- `BUSY` (R24). -/
  busy : Bit
  /-- `TXF`, the frame in flight (R24). -/
  txf : Option FrameRecord
  /-- `BITPOS` (R25). -/
  bitPos : BitVec 7
  /-- `BITCNT` (R25). -/
  bitCnt : Word
  /-- `PERIOD` (R25, R112). -/
  period : Word
  /-- `QUEUE`, head first (R21). -/
  queue : List FrameRecord
  /-- `HIST`, oldest first (R22). -/
  hist : List FrameRecord
  /-- `HIST_OVF` (R22). -/
  histOvf : Bit
  /-- `BIT_TIME` (R37). -/
  bitTime : Word
  /-- `HIST_INDEX` (R39). -/
  histIndex : Word
  /-- `TIME` (R118). -/
  time : BitVec 64
  /-- `TIME_HI_LATCH` (R41). -/
  timeHiLatch : Word
  /-- `rdata`: what the host port returned at the latest edge (R46, R107; log 2). -/
  rdata : Word
  /-- The model's own (log 1): the pins of the coming edges, the next edge first; idle pins past the end. -/
  inputs : List Pins
deriving DecidableEq, Repr

/-- The state after a reset edge (R140), with nothing presented on the pins. -/
def State.reset : State where
  txId := 0
  txDlc := 0
  txExt := false
  txData0 := 0
  txData1 := 0
  result := .ok
  runState := .stopped
  level := recessive
  busy := false
  txf := none
  bitPos := 0
  bitCnt := 0
  period := 0
  queue := []
  hist := []
  histOvf := false
  bitTime := Config.params.bitTimeReset
  histIndex := 0
  time := 0
  timeHiLatch := 0
  rdata := 0
  inputs := []

end Sys2Proof.Machine
end

