-- ==== Sys2Proof/Machine/Encoder.lean ====
section
/-! DEFINITION. The frame encoder (R72 to R84) and the validity of a frame record (R17). -/

namespace Sys2Proof.Machine

/-- R17: when a frame record is valid. -/
abbrev FrameRecord.Valid (f : FrameRecord) : Prop :=
  f.dlc.toNat ≤ 8 ∧ (f.ext = false → f.id.toNat ≤ 0x7FF) ∧ (f.ext = true → f.id.toNat ≤ 0x1FFFFFFF)

/-- R16: payload bytes at index `dlc` and above are 0. -/
abbrev FrameRecord.ZeroFilled (f : FrameRecord) : Prop :=
  ∀ b ∈ f.payload.toList.drop f.dlc.toNat, b = 0

/-- `[ (v >> shift) & 1 for shift from n-1 down to 0 ]` (R75): the low `n` bits of `v`, most significant first. -/
def msbFirst {w : Nat} (v : BitVec w) : Nat → List Bit
  | 0 => []
  | shift + 1 => v.getLsbD shift :: msbFirst v shift

/-- The width of the arbitration identifier: 29 if extended, else 11 (R60, R75). -/
def FrameRecord.idWidth (f : FrameRecord) : Nat := if f.ext then 29 else 11

/-- Start-of-frame (R74). -/
def startOfFrame : List Bit := [dominant]

/-- Arbitration identifier (R75). -/
def identifierBits (f : FrameRecord) : List Bit := msbFirst f.id f.idWidth

/-- Format-control bits (R76). -/
def formatControl (f : FrameRecord) : List Bit :=
  if f.ext then [recessive, recessive] else [dominant, dominant, dominant]

/-- Data-length field (R77). -/
def dataLengthBits (f : FrameRecord) : List Bit := msbFirst f.dlc 4

/-- Payload field (R78): the first `dlc` bytes, in order. -/
def payloadBits (f : FrameRecord) : List Bit :=
  (f.payload.toList.take f.dlc.toNat).flatMap fun b => msbFirst b 8

/-- CRC placeholder (R79). -/
def crcPlaceholder : List Bit := List.replicate 15 recessive

/-- CRC delimiter, ACK slot and ACK delimiter (R80). -/
def delimiterAck : List Bit := List.replicate 3 recessive

/-- End-of-frame (R81). -/
def endOfFrame : List Bit := List.replicate 7 recessive

/-- The eight fields of a frame, in R60's order. -/
def wireFields (f : FrameRecord) : List (List Bit) :=
  [startOfFrame, identifierBits f, formatControl f, dataLengthBits f, payloadBits f, crcPlaceholder, delimiterAck,
    endOfFrame]

/-- The pseudocode of R73. It has no meaning on an invalid record: `encodeFrame` is what the machine applies. -/
def frameBits (f : FrameRecord) : List Bit := (wireFields f).flatten

/-- `encode(f)` (R72, R73), and R84's refusal on an invalid record. -/
def encodeFrame (f : FrameRecord) : Except Refusal (List Bit) :=
  if f.Valid then .ok (frameBits f) else .error .invalidRecord

/-- `encode(TXF)`: what the sequencer reads at a bit boundary and `SEQ` shows (R108, R42). -/
def encodeTxf (s : State) : Except Refusal (List Bit) :=
  match s.txf with
  | some f => encodeFrame f
  | none => .error .noFrameInFlight

end Sys2Proof.Machine
end

