-- ==== Sys2Proof/Machine/Flags.lean ====
section
/-! DEFINITION. The status fields of the block: the numbers of `RESULT.CODE` (R68) and `RUN_STATE` (R23), and the
words a host reads at `RESULT` (R35) and `STATUS` (R36). -/

namespace Sys2Proof.Machine

/-- The number of a result code (R68). -/
def ResultCode.code : ResultCode → BitVec 4
  | .ok => 0
  | .errDlc => 1
  | .errStdRange => 2
  | .errExtRange => 3
  | .errQFull => 4
  | .errBusy => 5
  | .errBadCmd => 6

/-- The number of a run state (R23). -/
def RunState.code : RunState → BitVec 2
  | .stopped => 0
  | .running => 1
  | .stopping => 2

/-- `read_value(0x14)` (R92, R35). -/
def resultView (s : State) : Word := s.result.code.setWidth 32

/-- `read_value(0x18)` (R92, R36). -/
def statusView (s : State) : Word :=
  bitWord s.histOvf <<< 4 ||| bitWord s.busy <<< 3 ||| s.runState.code.setWidth 32 <<< 1 ||| bitWord s.level

end Sys2Proof.Machine
end

