-- ==== Sys2Proof/Machine/Operands.lean ====
section
/-! DEFINITION. What a host read of each register returns (R31 to R43, R92). -/

namespace Sys2Proof.Machine

/-- `read_value(0x04)`: `EXT` in bit 8, `DLC` in bits [3:0], reserved bits 0 (R32, R92). -/
def txFmtView (s : State) : Word := bitWord s.txExt <<< 8 ||| s.txDlc.setWidth 32

/-- A count as a register shows it: `min(n, 0xFFFFFFFF)` (R38). -/
def saturatedCount (n : Nat) : Word := BitVec.ofNat 32 (min n 0xFFFFFFFF)

/-- `read_value(0x20)` (R38). -/
def qcountView (s : State) : Word := saturatedCount s.queue.length

/-- `read_value(0x24)` (R38). -/
def histCountView (s : State) : Word := saturatedCount s.hist.length

/-- The history entry that `HIST_INDEX` selects; none when `HIST_INDEX >= len(HIST)` (R39, R40). -/
def histEntry (s : State) : Option FrameRecord := s.hist[s.histIndex.toNat]?

/-- A history view register: a field of the selected entry, or 0 when there is none (R40, R92). -/
def histView (field : FrameRecord → Word) (s : State) : Word :=
  match histEntry s with
  | some e => field e
  | none => 0

/-- `pack([b0, b1, b2, b3])` (R92, R48): the byte with the lower index in the less significant bits. -/
def packBytes (b0 b1 b2 b3 : Byte) : Word :=
  b3.setWidth 32 <<< 24 ||| b2.setWidth 32 <<< 16 ||| b1.setWidth 32 <<< 8 ||| b0.setWidth 32

/-- `HIST_ID` of an entry (R40). -/
def recordIdWord (e : FrameRecord) : Word := e.id.setWidth 32

/-- `HIST_FMT` of an entry: `VALID` in bit 31, `ext` in bit 8, `dlc` in bits [3:0] (R40). -/
def recordFmtWord (e : FrameRecord) : Word := bitWord true <<< 31 ||| bitWord e.ext <<< 8 ||| e.dlc.setWidth 32

/-- `HIST_DATA0` of an entry (R40). -/
def recordData0Word (e : FrameRecord) : Word := packBytes e.payload[0] e.payload[1] e.payload[2] e.payload[3]

/-- `HIST_DATA1` of an entry (R40). -/
def recordData1Word (e : FrameRecord) : Word := packBytes e.payload[4] e.payload[5] e.payload[6] e.payload[7]

/-- Bits [31:0] of a 64-bit value. -/
def lowWord (t : BitVec 64) : Word := t.extractLsb' 0 32

/-- Bits [63:32] of a 64-bit value. -/
def highWord (t : BitVec 64) : Word := t.extractLsb' 32 32

/-- `HIST_TS_LO` of an entry (R40). -/
def recordTsLoWord (e : FrameRecord) : Word := lowWord e.ts

/-- `HIST_TS_HI` of an entry (R40). -/
def recordTsHiWord (e : FrameRecord) : Word := highWord e.ts

/-- `read_value(0x4C)` (R42, R92): `FRAME_LEN` in bits [15:8] and `BITPOS` in bits [7:0] when `BUSY = 1`, else 0. -/
def seqView (s : State) : Except Refusal Word :=
  if s.busy then
    match encodeTxf s with
    | .ok bits => .ok (BitVec.ofNat 32 bits.length <<< 8 ||| s.bitPos.setWidth 32)
    | .error r => .error r
  else .ok 0

/-- `read_value(o)` at a word offset `o` (R92). -/
def readValue (o : Byte) (s : State) : Except Refusal Word :=
  match o.toNat with
  | 0x00 => .ok s.txId
  | 0x04 => .ok (txFmtView s)
  | 0x08 => .ok s.txData0
  | 0x0C => .ok s.txData1
  | 0x10 => .ok 0
  | 0x14 => .ok (resultView s)
  | 0x18 => .ok (statusView s)
  | 0x1C => .ok s.bitTime
  | 0x20 => .ok (qcountView s)
  | 0x24 => .ok (histCountView s)
  | 0x28 => .ok s.histIndex
  | 0x2C => .ok (histView recordIdWord s)
  | 0x30 => .ok (histView recordFmtWord s)
  | 0x34 => .ok (histView recordData0Word s)
  | 0x38 => .ok (histView recordData1Word s)
  | 0x3C => .ok (histView recordTsLoWord s)
  | 0x40 => .ok (histView recordTsHiWord s)
  | 0x44 => .ok (lowWord s.time)
  | 0x48 => .ok s.timeHiLatch
  | 0x4C => seqView s
  | _ => .ok 0

end Sys2Proof.Machine
end

