-- ==== Sys2Proof/Machine/Ops.lean ====
section
/-! DEFINITION. The named operations on the state: register writes (R93), the refusal of a command (R127), record
assembly (R65), the commands (R86 to R90), the port's own updates, and the reset event (R140). -/

namespace Sys2Proof.Machine

/-- The outcome of an instruction or of a part of a step. -/
abbrev StepOutcome := Host.Outcome State Fault Refusal

/-- One part of a step after another: a refusal ends the step. -/
def andThen (o : StepOutcome) (k : State → StepOutcome) : StepOutcome :=
  match o with
  | .next s => k s
  | .fault r => .fault r
  | .refused r => .refused r

/-! ### Host port -/

/-- A host read: the value is returned on `rdata` and no other state changes (R46, R51). -/
def returnData (v : Word) (s : State) : State := { s with rdata := v }

/-- The side effect of a `TIME_LO` read: `TIME_HI_LATCH <- TIME[63:32]` (R41, R92). -/
def latchTimeHi (s : State) : State := { s with timeHiLatch := highWord s.time }

/-- `TX_ID <- v` (R93). -/
def writeTxId (v : Word) (s : State) : State := { s with txId := v }

/-- `TX_FMT.DLC <- v[3:0]; TX_FMT.EXT <- v[8]` (R93); the other bits are dropped. -/
def writeTxFmt (v : Word) (s : State) : State := { s with txDlc := v.extractLsb' 0 4, txExt := v.getLsbD 8 }

/-- `TX_DATA0 <- v` (R93). -/
def writeTxData0 (v : Word) (s : State) : State := { s with txData0 := v }

/-- `TX_DATA1 <- v` (R93). -/
def writeTxData1 (v : Word) (s : State) : State := { s with txData1 := v }

/-- `BIT_TIME <- v` (R93). -/
def writeBitTime (v : Word) (s : State) : State := { s with bitTime := v }

/-- `HIST_INDEX <- v` (R93). -/
def writeHistIndex (v : Word) (s : State) : State := { s with histIndex := v }

/-! ### Commands -/

/-- `reject(code)`: `RESULT <- code` and no other change (R127). -/
def reject (code : ResultCode) (s : State) : State := { s with result := code }

/-- START (R87). -/
def startCommand (s : State) : State :=
  match s.runState with
  | .stopped => { s with runState := .running, result := .ok }
  | .running => { s with result := .ok }
  | .stopping => reject .errBusy s

/-- STOP (R88). -/
def stopCommand (s : State) : State :=
  match s.runState with
  | .running => { s with runState := .stopping, result := .ok }
  | .stopping => { s with result := .ok }
  | .stopped => { s with result := .ok }

/-- `raw[k]`: byte `k` of the staged payload (R33, R65). -/
def stagedByte (d0 d1 : Word) (k : Nat) : Byte :=
  if k < 4 then d0.extractLsb' (8 * k) 8 else d1.extractLsb' (8 * (k - 4)) 8

/-- `raw[k] if k < d else 0` (R65). -/
def recordByte (d : BitVec 4) (d0 d1 : Word) (k : Nat) : Byte := if k < d.toNat then stagedByte d0 d1 k else 0

/-- `make_record` on the staging registers and `TIME` (R65). -/
def makeRecord (s : State) : FrameRecord where
  id := s.txId.extractLsb' 0 29
  ext := s.txExt
  dlc := s.txDlc
  payload :=
    let byte := recordByte s.txDlc s.txData0 s.txData1
    #v[byte 0, byte 1, byte 2, byte 3, byte 4, byte 5, byte 6, byte 7]
  ts := s.time

/-- `QUEUE_DEPTH != UNBOUNDED and len(QUEUE) = QUEUE_DEPTH` (R89). -/
def queueFull (depth : Depth) (len : Nat) : Bool :=
  match depth with
  | .unbounded => false
  | .bounded n _ _ => len == n

/-- The code ENQUEUE reports: the first check of R89 that fails, in R129's order, or OK. -/
def enqueueCode (c : Config) (s : State) : ResultCode :=
  if 8 < s.txDlc.toNat then .errDlc
  else if s.txExt = false ∧ 0x7FF < s.txId.toNat then .errStdRange
  else if s.txExt = true ∧ 0x1FFFFFFF < s.txId.toNat then .errExtRange
  else if queueFull c.queueDepth s.queue.length then .errQFull
  else .ok

/-- ENQUEUE (R89): `RESULT` takes the code, and `QUEUE` takes the new record exactly when the code is OK. -/
def enqueueCommand (c : Config) (s : State) : State :=
  { s with
    result := enqueueCode c s
    queue := if enqueueCode c s = .ok then s.queue ++ [makeRecord s] else s.queue }

/-- "perform command `v[3:0]`" (R93, R97, R67). -/
def performCommand (c : Config) (v : Word) (s : State) : State :=
  match (opcodeField v).toNat with
  | 0x0 => s
  | 0x1 => startCommand s
  | 0x2 => stopCommand s
  | 0x3 => enqueueCommand c s
  | _ => reject .errBadCmd s

/-- The read side effect at a word offset (R92): only `TIME_LO` has one (R51). -/
def readEffect (o : Byte) (s : State) : State :=
  match o.toNat with
  | 0x44 => latchTimeHi s
  | _ => s

/-- `write_effect(o, v)` at a word offset `o` (R93). -/
def writeEffect (c : Config) (o : Byte) (v : Word) (s : State) : State :=
  match o.toNat with
  | 0x00 => writeTxId v s
  | 0x04 => writeTxFmt v s
  | 0x08 => writeTxData0 v s
  | 0x0C => writeTxData1 v s
  | 0x10 => performCommand c v s
  | 0x1C => writeBitTime v s
  | 0x28 => writeHistIndex v s
  | _ => s

/-! ### The edge -/

/-- The idle pins: no reset, no access (R46). -/
def idlePins : Pins := { rst := false, req := false, we := false, addr := 0, wdata := 0 }

/-- The pins of the coming edge (log 1). -/
def currentPins (s : State) : Pins := s.inputs.headD idlePins

/-- The access the pins present (R46). -/
def Pins.access (p : Pins) : Access := { we := p.we, addr := p.addr, wdata := p.wdata }

/-- The pins are sampled, and `rdata` is 0 unless this edge reads (R107). -/
def beginEdge (s : State) : State := { s with inputs := s.inputs.tail, rdata := 0 }

/-- `TIME <- (TIME + 1) mod 2^64` (R118). -/
def tick (s : State) : State := { s with time := s.time + 1 }

/-- The reset event (R140): every element of R19 takes its reset value; what the environment will drive stays. -/
def resetEvent (c : Config) (s : State) : State where
  txId := 0
  txDlc := 0
  txExt := false
  txData0 := 0
  txData1 := 0
  result := .ok
  runState := .stopped
  level := recessive
  busy := false
  txf := none
  bitPos := 0
  bitCnt := 0
  period := 0
  queue := []
  hist := []
  histOvf := false
  bitTime := c.bitTimeReset
  histIndex := 0
  time := 0
  timeHiLatch := 0
  rdata := 0
  inputs := s.inputs

/-- The output `bus_tx`, which equals `LEVEL` (R5, R116). -/
def busTx (s : State) : Bit := s.level

end Sys2Proof.Machine
end

