-- ==== Sys2Proof/Machine/Commands.lean ====
section
/-! DEFINITION. The meanings of the host commands (R86 to R90) and of the write of `CMD` (R97). Each is step (2) of its
edge (R107): the sequencer step of the same edge follows in `step` (log 10). -/

namespace Sys2Proof.Machine

/-- NOP (R86): no effect; `RESULT` keeps its value. -/
def execNop (s : State) : StepOutcome := .next s

/-- START (R87). -/
def execStart (s : State) : StepOutcome := .next (startCommand s)

/-- STOP (R88). -/
def execStop (s : State) : StepOutcome := .next (stopCommand s)

/-- ENQUEUE (R89). -/
def execEnqueue (s : State) : StepOutcome := .next (enqueueCommand Config.params s)

/-- The reserved opcodes 0x4 to 0x7 (R90): "all twelve reserved values behave alike". -/
def execReservedOp47 (_op : BitVec 4) (s : State) : StepOutcome := .next (reject .errBadCmd s)

/-- The reserved opcodes 0x8 to 0xF (R90). -/
def execReservedOp8F (_op : BitVec 4) (s : State) : StepOutcome := .next (reject .errBadCmd s)

/-- Write of `CMD` (R97): the command that `v[3:0]` selects. -/
def execWrCmd (v : Word) (s : State) : StepOutcome := .next (performCommand Config.params v s)

end Sys2Proof.Machine
end

