-- ==== Sys2Proof/Machine/Reads.lean ====
section
/-! DEFINITION. The meanings of the host reads (R94, R96, R98 to R104, R106). Each is step (2) of its edge (R107). -/

namespace Sys2Proof.Machine

/-- Read of `TX_ID` (R94). -/
def execRdTxId (s : State) : StepOutcome := .next (returnData s.txId s)

/-- Read of `TX_FMT` (R94). -/
def execRdTxFmt (s : State) : StepOutcome := .next (returnData (txFmtView s) s)

/-- Read of `TX_DATA0` (R94). -/
def execRdTxData0 (s : State) : StepOutcome := .next (returnData s.txData0 s)

/-- Read of `TX_DATA1` (R94). -/
def execRdTxData1 (s : State) : StepOutcome := .next (returnData s.txData1 s)

/-- Read of `CMD` (R96): `CMD` is write-only and reads 0; no command is performed. -/
def execRdCmd (s : State) : StepOutcome := .next (returnData 0 s)

/-- Read of `RESULT` (R98). -/
def execRdResult (s : State) : StepOutcome := .next (returnData (resultView s) s)

/-- Read of `STATUS` (R98). -/
def execRdStatus (s : State) : StepOutcome := .next (returnData (statusView s) s)

/-- Read of `BIT_TIME` (R99). -/
def execRdBitTime (s : State) : StepOutcome := .next (returnData s.bitTime s)

/-- Read of `QCOUNT` (R100). -/
def execRdQcount (s : State) : StepOutcome := .next (returnData (qcountView s) s)

/-- Read of `HIST_COUNT` (R100). -/
def execRdHistCount (s : State) : StepOutcome := .next (returnData (histCountView s) s)

/-- Read of `HIST_INDEX` (R101). -/
def execRdHistIndex (s : State) : StepOutcome := .next (returnData s.histIndex s)

/-- Read of `HIST_ID` (R102). -/
def execRdHistId (s : State) : StepOutcome := .next (returnData (histView recordIdWord s) s)

/-- Read of `HIST_FMT` (R102). -/
def execRdHistFmt (s : State) : StepOutcome := .next (returnData (histView recordFmtWord s) s)

/-- Read of `HIST_DATA0` (R102). -/
def execRdHistData0 (s : State) : StepOutcome := .next (returnData (histView recordData0Word s) s)

/-- Read of `HIST_DATA1` (R102). -/
def execRdHistData1 (s : State) : StepOutcome := .next (returnData (histView recordData1Word s) s)

/-- Read of `HIST_TS_LO` (R102). -/
def execRdHistTsLo (s : State) : StepOutcome := .next (returnData (histView recordTsLoWord s) s)

/-- Read of `HIST_TS_HI` (R102). -/
def execRdHistTsHi (s : State) : StepOutcome := .next (returnData (histView recordTsHiWord s) s)

/-- Read of `TIME_LO` (R103): it returns `TIME[31:0]` and loads `TIME_HI_LATCH` (R41). -/
def execRdTimeLo (s : State) : StepOutcome := .next (latchTimeHi (returnData (lowWord s.time) s))

/-- Read of `TIME_HI` (R103): the word latched by the last `TIME_LO` read. -/
def execRdTimeHi (s : State) : StepOutcome := .next (returnData s.timeHiLatch s)

/-- Read of `SEQ` (R104). `FRAME_LEN` is `len(encode(TXF))`, so R84's refusal applies where `TXF` holds no valid
record, which no reachable state has (R26). -/
def execRdSeq (s : State) : StepOutcome :=
  match seqView s with
  | .ok v => .next (returnData v s)
  | .error r => .refused r

/-- Read of an unmapped offset 0x50 to 0x5F (R106): it returns 0. -/
def execRdUnmapped505F (_off : Byte) (s : State) : StepOutcome := .next (returnData 0 s)

/-- Read of an unmapped offset 0x60 to 0x7F (R106): it returns 0. -/
def execRdUnmapped607F (_off : Byte) (s : State) : StepOutcome := .next (returnData 0 s)

/-- Read of an unmapped offset 0x80 to 0xFF (R106): it returns 0. -/
def execRdUnmapped80FF (_off : Byte) (s : State) : StepOutcome := .next (returnData 0 s)

end Sys2Proof.Machine
end

