-- ==== Sys2Proof/Machine/Writes.lean ====
section
/-! DEFINITION. The meanings of the host writes of registers (R95, R99, R101, R105). Each is step (2) of its edge (R107).
The write of `CMD` is in Commands.lean. -/

namespace Sys2Proof.Machine

/-- Write of `TX_ID` (R95). -/
def execWrTxId (v : Word) (s : State) : StepOutcome := .next (writeTxId v s)

/-- Write of `TX_FMT` (R95). -/
def execWrTxFmt (v : Word) (s : State) : StepOutcome := .next (writeTxFmt v s)

/-- Write of `TX_DATA0` (R95). -/
def execWrTxData0 (v : Word) (s : State) : StepOutcome := .next (writeTxData0 v s)

/-- Write of `TX_DATA1` (R95). -/
def execWrTxData1 (v : Word) (s : State) : StepOutcome := .next (writeTxData1 v s)

/-- Write of `BIT_TIME` (R99). -/
def execWrBitTime (v : Word) (s : State) : StepOutcome := .next (writeBitTime v s)

/-- Write of `HIST_INDEX` (R101). -/
def execWrHistIndex (v : Word) (s : State) : StepOutcome := .next (writeHistIndex v s)

/-- Write of the read-only register `RESULT` (R105): no effect. -/
def execWrResultIgnored (_v : Word) (s : State) : StepOutcome := .next s

/-- Write of the read-only register `STATUS` (R105): no effect. -/
def execWrStatusIgnored (_v : Word) (s : State) : StepOutcome := .next s

/-- Write of the read-only register `QCOUNT` (R105): no effect. -/
def execWrQcountIgnored (_v : Word) (s : State) : StepOutcome := .next s

/-- Write of the read-only register `HIST_COUNT` (R105): no effect. -/
def execWrHistCountIgnored (_v : Word) (s : State) : StepOutcome := .next s

/-- Write of the read-only register `HIST_ID` (R105): no effect. -/
def execWrHistIdIgnored (_v : Word) (s : State) : StepOutcome := .next s

/-- Write of the read-only register `HIST_FMT` (R105): no effect. -/
def execWrHistFmtIgnored (_v : Word) (s : State) : StepOutcome := .next s

/-- Write of the read-only register `HIST_DATA0` (R105): no effect. -/
def execWrHistData0Ignored (_v : Word) (s : State) : StepOutcome := .next s

/-- Write of the read-only register `HIST_DATA1` (R105): no effect. -/
def execWrHistData1Ignored (_v : Word) (s : State) : StepOutcome := .next s

/-- Write of the read-only register `HIST_TS_LO` (R105): no effect. -/
def execWrHistTsLoIgnored (_v : Word) (s : State) : StepOutcome := .next s

/-- Write of the read-only register `HIST_TS_HI` (R105): no effect. -/
def execWrHistTsHiIgnored (_v : Word) (s : State) : StepOutcome := .next s

/-- Write of the read-only register `TIME_LO` (R105): no effect; only a read latches. -/
def execWrTimeLoIgnored (_v : Word) (s : State) : StepOutcome := .next s

/-- Write of the read-only register `TIME_HI` (R105): no effect. -/
def execWrTimeHiIgnored (_v : Word) (s : State) : StepOutcome := .next s

/-- Write of the read-only register `SEQ` (R105): no effect. -/
def execWrSeqIgnored (_v : Word) (s : State) : StepOutcome := .next s

/-- Write of an unmapped offset 0x50 to 0x5F (R105): no effect. -/
def execWrUnmapped505F (_off : Byte) (_v : Word) (s : State) : StepOutcome := .next s

/-- Write of an unmapped offset 0x60 to 0x7F (R105): no effect. -/
def execWrUnmapped607F (_off : Byte) (_v : Word) (s : State) : StepOutcome := .next s

/-- Write of an unmapped offset 0x80 to 0xFF (R105): no effect. -/
def execWrUnmapped80FF (_off : Byte) (_v : Word) (s : State) : StepOutcome := .next s

end Sys2Proof.Machine
end

