-- ==== Sys2Proof/Machine/Dispatch.lean ====
section
/-! DEFINITION. One arm per row of spec/opcode_table.json: the host access of an edge (R107, step (2)). -/

namespace Sys2Proof.Machine

def exec (i : Instr) (s : State) : Host.Outcome State Fault Refusal :=
  match i with
  | .nop => Sys2Proof.Machine.execNop s
  | .start => Sys2Proof.Machine.execStart s
  | .stop => Sys2Proof.Machine.execStop s
  | .enqueue => Sys2Proof.Machine.execEnqueue s
  | .reservedOp47 op => Sys2Proof.Machine.execReservedOp47 op s
  | .reservedOp8F op => Sys2Proof.Machine.execReservedOp8F op s
  | .rdTxId => Sys2Proof.Machine.execRdTxId s
  | .wrTxId v => Sys2Proof.Machine.execWrTxId v s
  | .rdTxFmt => Sys2Proof.Machine.execRdTxFmt s
  | .wrTxFmt v => Sys2Proof.Machine.execWrTxFmt v s
  | .rdTxData0 => Sys2Proof.Machine.execRdTxData0 s
  | .wrTxData0 v => Sys2Proof.Machine.execWrTxData0 v s
  | .rdTxData1 => Sys2Proof.Machine.execRdTxData1 s
  | .wrTxData1 v => Sys2Proof.Machine.execWrTxData1 v s
  | .rdCmd => Sys2Proof.Machine.execRdCmd s
  | .wrCmd v => Sys2Proof.Machine.execWrCmd v s
  | .rdResult => Sys2Proof.Machine.execRdResult s
  | .rdStatus => Sys2Proof.Machine.execRdStatus s
  | .rdBitTime => Sys2Proof.Machine.execRdBitTime s
  | .wrBitTime v => Sys2Proof.Machine.execWrBitTime v s
  | .rdQcount => Sys2Proof.Machine.execRdQcount s
  | .rdHistCount => Sys2Proof.Machine.execRdHistCount s
  | .rdHistIndex => Sys2Proof.Machine.execRdHistIndex s
  | .wrHistIndex v => Sys2Proof.Machine.execWrHistIndex v s
  | .rdHistId => Sys2Proof.Machine.execRdHistId s
  | .rdHistFmt => Sys2Proof.Machine.execRdHistFmt s
  | .rdHistData0 => Sys2Proof.Machine.execRdHistData0 s
  | .rdHistData1 => Sys2Proof.Machine.execRdHistData1 s
  | .rdHistTsLo => Sys2Proof.Machine.execRdHistTsLo s
  | .rdHistTsHi => Sys2Proof.Machine.execRdHistTsHi s
  | .rdTimeLo => Sys2Proof.Machine.execRdTimeLo s
  | .rdTimeHi => Sys2Proof.Machine.execRdTimeHi s
  | .rdSeq => Sys2Proof.Machine.execRdSeq s
  | .wrResultIgnored v => Sys2Proof.Machine.execWrResultIgnored v s
  | .wrStatusIgnored v => Sys2Proof.Machine.execWrStatusIgnored v s
  | .wrQcountIgnored v => Sys2Proof.Machine.execWrQcountIgnored v s
  | .wrHistCountIgnored v => Sys2Proof.Machine.execWrHistCountIgnored v s
  | .wrHistIdIgnored v => Sys2Proof.Machine.execWrHistIdIgnored v s
  | .wrHistFmtIgnored v => Sys2Proof.Machine.execWrHistFmtIgnored v s
  | .wrHistData0Ignored v => Sys2Proof.Machine.execWrHistData0Ignored v s
  | .wrHistData1Ignored v => Sys2Proof.Machine.execWrHistData1Ignored v s
  | .wrHistTsLoIgnored v => Sys2Proof.Machine.execWrHistTsLoIgnored v s
  | .wrHistTsHiIgnored v => Sys2Proof.Machine.execWrHistTsHiIgnored v s
  | .wrTimeLoIgnored v => Sys2Proof.Machine.execWrTimeLoIgnored v s
  | .wrTimeHiIgnored v => Sys2Proof.Machine.execWrTimeHiIgnored v s
  | .wrSeqIgnored v => Sys2Proof.Machine.execWrSeqIgnored v s
  | .rdUnmapped505F off => Sys2Proof.Machine.execRdUnmapped505F off s
  | .wrUnmapped505F off v => Sys2Proof.Machine.execWrUnmapped505F off v s
  | .rdUnmapped607F off => Sys2Proof.Machine.execRdUnmapped607F off s
  | .wrUnmapped607F off v => Sys2Proof.Machine.execWrUnmapped607F off v s
  | .rdUnmapped80FF off => Sys2Proof.Machine.execRdUnmapped80FF off s
  | .wrUnmapped80FF off v => Sys2Proof.Machine.execWrUnmapped80FF off v s

end Sys2Proof.Machine
end

