-- ==== Sys2Proof/Machine/Sequencer.lean ====
section
/-! DEFINITION. The sequencer step (R108) and its branches (R109 to R115). -/

namespace Sys2Proof.Machine

/-- `P = max(1, BIT_TIME)` (R112). -/
def bitPeriod (bitTime : Word) : Word := if bitTime = 0 then 1 else bitTime

/-- Bit hold (R113). -/
def bitHold (s : State) : State := { s with bitCnt := s.bitCnt - 1 }

/-- Bit advance to a new bit (R114). -/
def bitAdvance (newBit : Bit) (s : State) : State :=
  { s with bitPos := s.bitPos + 1, level := newBit, bitCnt := s.period }

/-- `HIST_DEPTH = UNBOUNDED or len(HIST) < HIST_DEPTH` (R115). -/
def histHasRoom (depth : Depth) (len : Nat) : Bool :=
  match depth with
  | .unbounded => true
  | .bounded n _ _ => decide (len < n)

/-- Completion of the frame `f` in flight (R115). -/
def complete (c : Config) (f : FrameRecord) (s : State) : State :=
  { s with
    level := recessive
    hist := if histHasRoom c.histDepth s.hist.length then s.hist ++ [f] else s.hist
    histOvf := if histHasRoom c.histDepth s.hist.length then s.histOvf else true
    txf := none
    busy := false
    bitPos := 0
    bitCnt := 0 }

/-- Dispatch of the head `f` of the queue, whose first bit is `firstBit` (R109). -/
def dispatch (f : FrameRecord) (rest : List FrameRecord) (firstBit : Bit) (s : State) : State :=
  { s with
    txf := some f
    queue := rest
    busy := true
    period := bitPeriod s.bitTime
    bitCnt := bitPeriod s.bitTime
    bitPos := 0
    level := firstBit }

/-- Stop taking effect (R110). -/
def finishStop (s : State) : State := { s with runState := .stopped }

/-- The bit boundary of the frame `f` in flight: the next bit of `encode(f)` if there is one (R114), else completion
(R115). -/
def bitBoundary (c : Config) (f : FrameRecord) (s : State) : StepOutcome :=
  match encodeFrame f with
  | .error r => .refused r
  | .ok bits =>
    match bits[s.bitPos.toNat + 1]? with
    | some b => .next (bitAdvance b s)
    | none => .next (complete c f s)

/-- The busy branches (R113 to R115). -/
def busyStep (c : Config) (s : State) : StepOutcome :=
  if 1 < s.bitCnt.toNat then .next (bitHold s)
  else
    match s.txf with
    | none => .refused .noFrameInFlight
    | some f => bitBoundary c f s

/-- The idle branches (R109 to R111): the stop is tested before the queue. -/
def idleStep (s : State) : StepOutcome :=
  match s.runState with
  | .stopping => .next (finishStop s)
  | .stopped => .next s
  | .running =>
    match s.queue with
    | [] => .next s
    | f :: rest =>
      match encodeFrame f with
      | .error r => .refused r
      | .ok bits => .next (dispatch f rest (bits.headD dominant) s)

/-- The sequencer step (R108). -/
def seqStep (c : Config) (s : State) : StepOutcome :=
  if s.busy then busyStep c s else idleStep s

end Sys2Proof.Machine
end

