-- ==== Sys2Proof/Machine/Edge.lean ====
section
/-! DEFINITION. One rising edge (R107): reset alone, or else the host access, the sequencer step and the increment of
`TIME`, in that order; and how a word is presented on the pins of the coming edge. -/

namespace Sys2Proof.Machine

/-- The host access of an edge: the decoded instruction if `req = 1`, else none (R46). -/
def hostAccess (p : Pins) (s : State) : StepOutcome :=
  if p.req then exec (decodeAccess p.access) s else .next s

/-- What an edge does with given pins (R107), `s` being the state with the pins sampled. -/
def edgeWith (p : Pins) (s : State) : StepOutcome :=
  if p.rst then .next (resetEvent Config.params s)
  else andThen (hostAccess p s) fun s1 => andThen (seqStep Config.params s1) fun s2 => .next (tick s2)

/-- One rising edge: the pins are sampled and act (R107). -/
def edge (s : State) : StepOutcome := edgeWith (currentPins s) (beginEdge s)

/-- The pins that present an access: `rst = 0`, `req = 1` (R46). -/
def pinsOfAccess (a : Access) : Pins := { rst := false, req := true, we := a.we, addr := a.addr, wdata := a.wdata }

/-- The pins that present a bit pattern of the opcode table; idle pins where it is no word (log 7). -/
def pinsOfBits (nbits w : Nat) : Pins :=
  match TableWord.ofBits nbits w with
  | .ok t => pinsOfAccess t.access
  | .error _ => idlePins

/-- The pins of the coming edge are replaced (log 1). -/
def presentPins (p : Pins) (s : State) : State := { s with inputs := p :: s.inputs.tail }

end Sys2Proof.Machine
end

