-- ==== Sys2Proof/Machine/Step.lean ====
section
/-! DEFINITION. The step: one rising edge of `clk` (R5, R107). -/

namespace Sys2Proof.Machine

/-- One model step is one rising edge (R5, R107). -/
def step (s : State) : Host.Outcome State Fault Refusal := edge s

/-- `s` with an instruction of the opcode table presented on the host port at the coming edge (log 1). -/
def State.withFetchWord (s : State) (nbits w : Nat) : State := presentPins (pinsOfBits nbits w) s

end Sys2Proof.Machine
end

