-- ==== Sys2Proof/Safety.lean ====
section
/-! DEFINITION. What a good state is (R16, R17, R26), and the terms in which statements speak of runs: a schedule
without reset (R12), the records an edge accepts and discards, and the order in which records pass through (R122). -/

namespace Sys2Proof.Machine

/-- `k` edges (the host's run of the machine). -/
abbrev run (k : Nat) (s : State) : StepOutcome := Host.Core.run Sys2Proof.core k s

/-- `n` frames fit a store of this depth (R26 (e)). -/
def fitsDepth (d : Depth) (n : Nat) : Prop :=
  match d with
  | .unbounded => True
  | .bounded k _ _ => n ≤ k

/-- A record as ENQUEUE makes it: valid (R17), with zero fill (R16). -/
abbrev FrameRecord.WellMade (f : FrameRecord) : Prop := f.Valid ∧ f.ZeroFilled

/-- Every record the block holds, in the order in which it was accepted (R122): history, frame in flight, queue. -/
def pipeline (s : State) : List FrameRecord := s.hist ++ s.txf.toList ++ s.queue

/-- What holds "in every state reachable from reset" (R26), with R17's "Every record in `QUEUE`, `TXF` and `HIST` is
valid" and R16's zero fill. R26 (c) is the type of `RUN_STATE`. -/
structure State.Good (c : Config) (s : State) : Prop where
  /-- R26 (a). -/
  idle : s.busy = false → s.level = recessive ∧ s.txf = none ∧ s.bitPos = 0 ∧ s.bitCnt = 0
  /-- R26 (b). -/
  inFlight : s.busy = true →
    ∃ f bits, s.txf = some f ∧ encodeFrame f = .ok bits ∧ bits[s.bitPos.toNat]? = some s.level ∧
      1 ≤ s.bitCnt.toNat ∧ s.bitCnt.toNat ≤ s.period.toNat
  /-- R26 (d). -/
  running : s.busy = true → s.runState = .running ∨ s.runState = .stopping
  /-- R26 (e). -/
  queueFits : fitsDepth c.queueDepth s.queue.length
  /-- R26 (e). -/
  histFits : fitsDepth c.histDepth s.hist.length
  /-- R16, R17. -/
  records : ∀ f ∈ pipeline s, f.WellMade

/-- No reset edge among the next `k` edges. -/
abbrev NoReset (k : Nat) (s : State) : Prop := ∀ p ∈ s.inputs.take k, p.rst = false

/-- The pins write the opcode `op` to `CMD` (R46, R66, R97). -/
def Pins.commands (p : Pins) (op : BitVec 4) : Bool :=
  !p.rst && p.req && p.we && wordOffset p.addr == 0x10 && opcodeField p.wdata == op

/-- The pins write `BIT_TIME` (R46, R99). -/
def Pins.writesBitTime (p : Pins) : Bool := !p.rst && p.req && p.we && wordOffset p.addr == 0x1C

/-- The record that the coming edge accepts into the queue, if it performs an accepted ENQUEUE (R89). -/
def acceptedNow (s : State) : Option FrameRecord :=
  if (currentPins s).commands 0x3 = true ∧ enqueueCode Config.params s = .ok then some (makeRecord s) else none

/-- The coming edge ends the frame in flight (R115). -/
def completesNow (s : State) : Bool :=
  !(currentPins s).rst && s.busy && decide (s.bitCnt.toNat ≤ 1) &&
    match encodeTxf s with
    | .ok bits => decide (bits.length ≤ s.bitPos.toNat + 1)
    | .error _ => false

/-- The coming edge completes a frame and finds the history full, so that the frame is discarded (R22, R115). -/
def discardsNow (s : State) : Bool := completesNow s && !histHasRoom Config.params.histDepth s.hist.length

/-- The records accepted over the next `k` edges, in order. -/
def acceptedOver : Nat → State → List FrameRecord
  | 0, _ => []
  | k + 1, s =>
    (acceptedNow s).toList ++
      match step s with
      | .next t => acceptedOver k t
      | _ => []

/-- How many frames are discarded over the next `k` edges (R124's `X`). -/
def discardedOver : Nat → State → Nat
  | 0, _ => 0
  | k + 1, s =>
    (if discardsNow s then 1 else 0) +
      match step s with
      | .next t => discardedOver k t
      | _ => 0

/-- What a history of this depth keeps of a list of completed frames: the first ones that fit (R22). -/
def keptBy (d : Depth) (l : List FrameRecord) : List FrameRecord :=
  match d with
  | .unbounded => l
  | .bounded n _ _ => l.take n

/-- The edges that sending these frames back to back takes at bit period `p`: `L * P + 1` each (R125). -/
def edgesToSend (p : Nat) (fs : List FrameRecord) : Nat := (fs.map fun f => (frameBits f).length * p + 1).sum

end Sys2Proof.Machine
end

