-- ==== Sys2Proof/Certificates/Slice0/Obligations.lean ====
section
/-! DEFINITION. The statements for the provers: what the numbered rules say the block does. -/

open Sys2Proof Sys2Proof.Machine

/-! ### Encodings -/

/-- Every well-formed instruction is read back from its own word (R66, R67, R70). What the operands of an instruction
are is the model's choice (log 7). -/
def Obligations.EncodeThenDecodeGivesInstruction : Prop :=
  ∀ i : Instr, i.wellFormed = true → decode (encode i) = i

/-- Every word decodes to a well-formed instruction, and encoding that gives the word back with exactly the bits that
R49, R66 and R46 call ignored cleared: no other bit is dropped. That a word has one of these two forms is the model's
choice (log 7). -/
def Obligations.DecodeThenEncodeGivesCanonicalWord : Prop :=
  ∀ t : TableWord, (decode t).wellFormed = true ∧ encode (decode t) = t.canonical

/-- `addr[1:0]` and `CMD[31:4]` select nothing (R49, R66). -/
def Obligations.IgnoredBitsSelectNothing : Prop :=
  (∀ we addr v, decodeAccess { we, addr, wdata := v } = decodeAccess { we, addr := addr &&& 0xFC, wdata := v }) ∧
  (∀ v w : Word, v &&& 0xF = w &&& 0xF → decodeCommand v = decodeCommand w)

/-- A few words written out from R67 and R70 decode to the rows they are. How the table's bits of a row are read as a word
of one format or the other is the model's choice (log 7). -/
def Obligations.ListedWordsDecode : Prop :=
  decodeTableWord 8 0b00000011 = some .enqueue ∧
  decodeTableWord 32 0xFFFFFFF3 = some .enqueue ∧
  decodeTableWord 8 0b00000111 = some (.reservedOp47 7) ∧
  decodeTableWord 16 0b001000100 = some .rdTimeLo ∧
  decodeTableWord 16 0b100001000 = some (.wrTxData0 0) ∧
  decodeTableWord 48 0xEFBEADDE0108 = some (.wrTxData0 0xEFBEADDE) ∧
  decodeTableWord 16 0b100010000 = some (.wrCmd 0) ∧
  decodeTableWord 16 0b110000000 = some (.wrUnmapped80FF 0x80 0)

/-! ### Host commands -/

/-- R86: NOP has no effect, and so has every `CMD` write whose bits [3:0] are 0. -/
def Obligations.NopChangesNothing : Prop :=
  ∀ s : State, exec .nop s = .next s ∧ ∀ v : Word, v &&& 0xF = 0 → exec (.wrCmd v) s = .next s

/-- R87: START by run state; the same edge dispatches a waiting frame; and the rule's example from reset. -/
def Obligations.StartFollowsRunState : Prop :=
  (∀ s : State,
    (s.runState = .stopped → exec .start s = .next { s with runState := .running, result := .ok }) ∧
    (s.runState = .running → exec .start s = .next { s with result := .ok }) ∧
    (s.runState = .stopping → exec .start s = .next { s with result := .errBusy })) ∧
  (∀ (s : State) (f : FrameRecord) (rest : List FrameRecord),
    (currentPins s).commands 0x1 = true → s.runState ≠ .stopping → s.busy = false → s.queue = f :: rest → f.Valid →
      ∃ t, step s = .next t ∧ t.runState = .running ∧ t.result = .ok ∧ t.busy = true ∧ t.txf = some f ∧
        t.queue = rest) ∧
  (∃ t, step (State.reset.withFetchWord 8 0x1) = .next t ∧ statusView t = 0x00000003 ∧ resultView t = 0)

/-- R88: STOP by run state; STOPPED follows at the same edge when the sequencer is idle. -/
def Obligations.StopFollowsRunState : Prop :=
  (∀ s : State,
    (s.runState = .running → exec .stop s = .next { s with runState := .stopping, result := .ok }) ∧
    (s.runState ≠ .running → exec .stop s = .next { s with result := .ok })) ∧
  (∀ s : State, (currentPins s).commands 0x2 = true → s.busy = false →
    ∃ t, step s = .next t ∧ t.runState = .stopped ∧ t.result = .ok ∧ t.queue = s.queue ∧ t.hist = s.hist)

/-- R89, accepted: the staged frame is valid and the queue has room. The record is appended, `RESULT` is OK, and
nothing else changes; with `QUEUE_DEPTH = UNBOUNDED` there is always room. -/
def Obligations.EnqueueAppendsValidFrame : Prop :=
  (∀ (c : Config) (s : State),
    s.txDlc.toNat ≤ 8 → (s.txExt = false → s.txId.toNat ≤ 0x7FF) → (s.txExt = true → s.txId.toNat ≤ 0x1FFFFFFF) →
    (∀ n h1 h2, c.queueDepth = .bounded n h1 h2 → s.queue.length ≠ n) →
      enqueueCommand c s = { s with queue := s.queue ++ [makeRecord s], result := .ok }) ∧
  (∀ s : State, exec .enqueue s = .next (enqueueCommand Config.params s)) ∧
  (∀ s : State, s.txDlc.toNat ≤ 8 → (s.txExt = false → s.txId.toNat ≤ 0x7FF) →
    (s.txExt = true → s.txId.toNat ≤ 0x1FFFFFFF) → s.queue = [] →
      exec .enqueue s = .next { s with queue := [makeRecord s], result := .ok })

/-- R89, R128, R129, rejected: the first condition that holds, in the order ERR_DLC, ERR_STD_RANGE or ERR_EXT_RANGE,
ERR_QFULL, is reported, and only `RESULT` changes. -/
def Obligations.EnqueueReportsFirstError : Prop :=
  ∀ (c : Config) (s : State),
    (8 < s.txDlc.toNat → enqueueCommand c s = { s with result := .errDlc }) ∧
    (s.txDlc.toNat ≤ 8 → s.txExt = false → 0x7FF < s.txId.toNat →
      enqueueCommand c s = { s with result := .errStdRange }) ∧
    (s.txDlc.toNat ≤ 8 → s.txExt = true → 0x1FFFFFFF < s.txId.toNat →
      enqueueCommand c s = { s with result := .errExtRange }) ∧
    (∀ n h1 h2, s.txDlc.toNat ≤ 8 → (s.txExt = false → s.txId.toNat ≤ 0x7FF) →
      (s.txExt = true → s.txId.toNat ≤ 0x1FFFFFFF) → c.queueDepth = .bounded n h1 h2 → s.queue.length = n →
      enqueueCommand c s = { s with result := .errQFull })

/-- R90: the twelve reserved opcodes, as instructions and as `CMD` writes, set `RESULT` to ERR_BADCMD, which reads 6, and
change nothing else. -/
def Obligations.ReservedOpcodesReportBadCommand : Prop :=
  ∀ s : State,
    resultView { s with result := .errBadCmd } = 6 ∧
    (∀ op : BitVec 4, exec (.reservedOp47 op) s = .next { s with result := .errBadCmd }) ∧
    (∀ op : BitVec 4, exec (.reservedOp8F op) s = .next { s with result := .errBadCmd }) ∧
    (∀ v : Word, 4 ≤ (v &&& 0xF).toNat → exec (.wrCmd v) s = .next { s with result := .errBadCmd })

/-- R97, R67: a write of `CMD` performs the command that `v[3:0]` selects, whatever `v[31:4]` is, and completes in every
state. -/
def Obligations.CmdWritePerformsSelectedCommand : Prop :=
  ∀ (v : Word) (s : State),
    (v &&& 0xF = 0x0 → exec (.wrCmd v) s = exec .nop s) ∧
    (v &&& 0xF = 0x1 → exec (.wrCmd v) s = exec .start s) ∧
    (v &&& 0xF = 0x2 → exec (.wrCmd v) s = exec .stop s) ∧
    (v &&& 0xF = 0x3 → exec (.wrCmd v) s = exec .enqueue s) ∧
    (0x4 ≤ (v &&& 0xF).toNat → (v &&& 0xF).toNat ≤ 0x7 →
      exec (.wrCmd v) s = exec (.reservedOp47 (v.extractLsb' 0 4)) s) ∧
    (0x8 ≤ (v &&& 0xF).toNat → exec (.wrCmd v) s = exec (.reservedOp8F (v.extractLsb' 0 4)) s) ∧
    exec (.wrCmd v) s = exec (decodeCommand v) s ∧
    ∃ t, exec (.wrCmd v) s = .next t

/-- R65: the record that ENQUEUE makes, field by field, and its validity when ENQUEUE accepts it. -/
def Obligations.RecordAssembly : Prop :=
  (∀ s : State,
    (makeRecord s).id = s.txId.extractLsb' 0 29 ∧ (makeRecord s).ext = s.txExt ∧ (makeRecord s).dlc = s.txDlc ∧
    (makeRecord s).ts = s.time ∧
    ∀ (k : Nat) (h : k < 8), (makeRecord s).payload[k] =
      if k < s.txDlc.toNat then
        if k < 4 then s.txData0.extractLsb' (8 * k) 8 else s.txData1.extractLsb' (8 * (k - 4)) 8
      else 0) ∧
  (∀ (c : Config) (s : State), enqueueCode c s = .ok →
    (makeRecord s).Valid ∧ (makeRecord s).ZeroFilled ∧ (makeRecord s).id.toNat = s.txId.toNat)

/-! ### Host register accesses -/

/-- R94, R95: staging registers store and return what was written to them, `TX_FMT` only its bits [3:0] and [8], so that
0xFFFFFFFF reads back 0x0000010F; a read changes nothing but `rdata`, a write nothing but its register. -/
def Obligations.StagingRegistersStoreAndReturn : Prop :=
  (∀ (s : State) (v : Word),
    exec .rdTxId s = .next { s with rdata := s.txId } ∧
    exec .rdTxData0 s = .next { s with rdata := s.txData0 } ∧
    exec .rdTxData1 s = .next { s with rdata := s.txData1 } ∧
    (∃ d : Word, exec .rdTxFmt s = .next { s with rdata := d } ∧
      d.extractLsb' 0 4 = s.txDlc ∧ d.extractLsb' 4 4 = 0 ∧ d.getLsbD 8 = s.txExt ∧ d.extractLsb' 9 23 = 0) ∧
    exec (.wrTxId v) s = .next { s with txId := v } ∧
    exec (.wrTxData0 v) s = .next { s with txData0 := v } ∧
    exec (.wrTxData1 v) s = .next { s with txData1 := v } ∧
    exec (.wrTxFmt v) s = .next { s with txDlc := v.extractLsb' 0 4, txExt := v.getLsbD 8 }) ∧
  (∀ (s t : State) (v : Word), exec (.wrTxFmt v) s = .next t →
    exec .rdTxFmt t = .next { t with rdata := v &&& 0x0000010F })

/-- R96, R106: `CMD` and the unmapped offsets read 0, and nothing else changes. -/
def Obligations.CmdAndUnmappedReadZero : Prop :=
  ∀ (s : State) (off : Byte),
    exec .rdCmd s = .next { s with rdata := 0 } ∧
    exec (.rdUnmapped505F off) s = .next { s with rdata := 0 } ∧
    exec (.rdUnmapped607F off) s = .next { s with rdata := 0 } ∧
    exec (.rdUnmapped80FF off) s = .next { s with rdata := 0 }

/-- R98 with the field layouts of R35 and R36 and the numbers of R68 and R23: `RESULT` and `STATUS` as a host reads them,
bit by bit. -/
def Obligations.ResultAndStatusReads : Prop :=
  ∀ s : State, ∃ r v : Word,
    exec .rdResult s = .next { s with rdata := r } ∧
    r.toNat = (match s.result with
      | .ok => 0 | .errDlc => 1 | .errStdRange => 2 | .errExtRange => 3 | .errQFull => 4 | .errBusy => 5
      | .errBadCmd => 6) ∧
    exec .rdStatus s = .next { s with rdata := v } ∧
    v.getLsbD 0 = s.level ∧
    (v.extractLsb' 1 2).toNat = (match s.runState with | .stopped => 0 | .running => 1 | .stopping => 2) ∧
    v.getLsbD 3 = s.busy ∧ v.getLsbD 4 = s.histOvf ∧
    v.extractLsb' 5 27 = 0

/-- R99, R101: `BIT_TIME` and `HIST_INDEX` store every value and read it back. -/
def Obligations.BitTimeAndHistIndexStoreAndReturn : Prop :=
  ∀ (s : State) (v : Word),
    exec .rdBitTime s = .next { s with rdata := s.bitTime } ∧
    exec (.wrBitTime v) s = .next { s with bitTime := v } ∧
    exec .rdHistIndex s = .next { s with rdata := s.histIndex } ∧
    exec (.wrHistIndex v) s = .next { s with histIndex := v }

/-- R99, R112: a `BIT_TIME` write while a frame is in flight leaves `PERIOD` alone; a write at the edge of a dispatch
applies to that dispatch, with `PERIOD = max(1, BIT_TIME)`. -/
def Obligations.BitTimeTakenAtDispatch : Prop :=
  (∀ s t : State, (currentPins s).writesBitTime = true → s.busy = true → step s = .next t →
    t.bitTime = (currentPins s).wdata ∧ t.period = s.period) ∧
  (∀ (s : State) (f : FrameRecord) (rest : List FrameRecord), (currentPins s).writesBitTime = true → s.busy = false →
    s.runState = .running → s.queue = f :: rest → f.Valid →
      ∃ t, step s = .next t ∧ t.busy = true ∧ t.txf = some f ∧ t.bitTime = (currentPins s).wdata ∧
        t.period.toNat = max 1 (currentPins s).wdata.toNat ∧ t.bitCnt = t.period)

/-- R38: the counts saturate at 0xFFFFFFFF, writes to them are ignored, and both are 0 at reset. -/
def Obligations.CountsSaturate : Prop :=
  (∀ s : State,
    (∃ v : Word, exec .rdQcount s = .next { s with rdata := v } ∧ v.toNat = min s.queue.length 0xFFFFFFFF) ∧
    (∃ v : Word, exec .rdHistCount s = .next { s with rdata := v } ∧ v.toNat = min s.hist.length 0xFFFFFFFF) ∧
    ∀ v : Word, exec (.wrQcountIgnored v) s = .next s ∧ exec (.wrHistCountIgnored v) s = .next s) ∧
  exec .rdQcount State.reset = .next { State.reset with rdata := 0 } ∧
  exec .rdHistCount State.reset = .next { State.reset with rdata := 0 }

/-- R40, R102: with `HIST_INDEX < len(HIST)` the six view registers show the fields of `HIST[HIST_INDEX]`; otherwise
all six read 0. -/
def Obligations.HistoryViewsShowSelectedEntry : Prop :=
  ∀ s : State, ∃ id fmt d0 d1 lo hi : Word,
    exec .rdHistId s = .next { s with rdata := id } ∧ exec .rdHistFmt s = .next { s with rdata := fmt } ∧
    exec .rdHistData0 s = .next { s with rdata := d0 } ∧ exec .rdHistData1 s = .next { s with rdata := d1 } ∧
    exec .rdHistTsLo s = .next { s with rdata := lo } ∧ exec .rdHistTsHi s = .next { s with rdata := hi } ∧
    (∀ h : s.histIndex.toNat < s.hist.length,
      let e := s.hist[s.histIndex.toNat]
      id.toNat = e.id.toNat ∧
      fmt.extractLsb' 0 4 = e.dlc ∧ fmt.extractLsb' 4 4 = 0 ∧ fmt.getLsbD 8 = e.ext ∧ fmt.extractLsb' 9 22 = 0 ∧
      fmt.getLsbD 31 = true ∧
      (∀ (k : Nat) (hk : k < 4), d0.extractLsb' (8 * k) 8 = e.payload[k] ∧ d1.extractLsb' (8 * k) 8 = e.payload[k + 4]) ∧
      hi ++ lo = e.ts) ∧
    (s.hist.length ≤ s.histIndex.toNat → id = 0 ∧ fmt = 0 ∧ d0 = 0 ∧ d1 = 0 ∧ lo = 0 ∧ hi = 0)

/-- R41, R103: `TIME_LO` returns `TIME[31:0]` and latches `TIME[63:32]`; `TIME_HI` returns the latch; the pair is the
`TIME` of the `TIME_LO` read whatever `TIME` has become; both read 0 after reset. -/
def Obligations.TimeReadPairIsConsistent : Prop :=
  (∀ s : State,
    exec .rdTimeLo s =
      .next { s with rdata := s.time.extractLsb' 0 32, timeHiLatch := s.time.extractLsb' 32 32 } ∧
    exec .rdTimeHi s = .next { s with rdata := s.timeHiLatch }) ∧
  (∀ s t u w : State, exec .rdTimeLo s = .next t → u.timeHiLatch = t.timeHiLatch → exec .rdTimeHi u = .next w →
    w.rdata ++ t.rdata = s.time) ∧
  exec .rdTimeHi State.reset = .next { State.reset with rdata := 0 } ∧
  exec .rdTimeLo State.reset = .next { State.reset with rdata := 0 }

/-- R42, R104: `SEQ` shows `BITPOS` in bits [7:0] and `FRAME_LEN` in bits [15:8] while a frame is in flight, else 0;
so it is 0 exactly when `BUSY = 0`. The frame in flight is a valid record (R26 (b)). -/
def Obligations.SeqShowsFramePosition : Prop :=
  ∀ s : State,
    (s.busy = false → exec .rdSeq s = .next { s with rdata := 0 }) ∧
    (∀ f bits, s.busy = true → s.txf = some f → encodeFrame f = .ok bits →
      ∃ v : Word, exec .rdSeq s = .next { s with rdata := v } ∧
        (v.extractLsb' 0 8).toNat = s.bitPos.toNat ∧ (v.extractLsb' 8 8).toNat = bits.length ∧
        44 ≤ bits.length ∧ bits.length ≤ 125 ∧ v.extractLsb' 16 16 = 0 ∧ v ≠ 0)

/-- R84, R104: where `BUSY = 1` and `TXF` is no valid record, in states no run reaches, `encode` is a refusal, not a
value, and so is the read of `SEQ` that needs it. The refusals' names, and the second one's being a refusal, are the
model's choice (log 5). -/
def Obligations.SeqReadNeedsValidFrame : Prop :=
  ∀ s : State, s.busy = true →
    (s.txf = none → exec .rdSeq s = .refused .noFrameInFlight) ∧
    (∀ f, s.txf = some f → ¬ f.Valid → exec .rdSeq s = .refused .invalidRecord)

/-- R92: a read of any offset returns `read_value(a & 0xFC)` of the state before it, and then has the read side
effect. -/
def Obligations.ReadReturnsReadValue : Prop :=
  ∀ (addr : Byte) (v : Word) (s : State),
    exec (decodeAccess { we := false, addr, wdata := v }) s =
      match readValue (addr &&& 0xFC) s with
      | .ok d => .next (readEffect (addr &&& 0xFC) { s with rdata := d })
      | .error r => .refused r

/-- R93: a write of `v` to any offset performs `write_effect(a & 0xFC, v)`. -/
def Obligations.WritePerformsWriteEffect : Prop :=
  ∀ (addr : Byte) (v : Word) (s : State),
    exec (decodeAccess { we := true, addr, wdata := v }) s = .next (writeEffect Config.params (addr &&& 0xFC) v s)

/-- R105: a write of a read-only register or of an unmapped offset has no effect. -/
def Obligations.ReadOnlyWritesIgnored : Prop :=
  ∀ (s : State) (off : Byte) (v : Word),
    exec (.wrResultIgnored v) s = .next s ∧ exec (.wrStatusIgnored v) s = .next s ∧
    exec (.wrQcountIgnored v) s = .next s ∧ exec (.wrHistCountIgnored v) s = .next s ∧
    exec (.wrHistIdIgnored v) s = .next s ∧ exec (.wrHistFmtIgnored v) s = .next s ∧
    exec (.wrHistData0Ignored v) s = .next s ∧ exec (.wrHistData1Ignored v) s = .next s ∧
    exec (.wrHistTsLoIgnored v) s = .next s ∧ exec (.wrHistTsHiIgnored v) s = .next s ∧
    exec (.wrTimeLoIgnored v) s = .next s ∧ exec (.wrTimeHiIgnored v) s = .next s ∧
    exec (.wrSeqIgnored v) s = .next s ∧
    exec (.wrUnmapped505F off v) s = .next s ∧ exec (.wrUnmapped607F off v) s = .next s ∧
    exec (.wrUnmapped80FF off v) s = .next s

/-- R19's "written by" column for the host's accesses: which instructions can change which element. Nothing else is
changed by any of them, in particular nothing of the sequencer's (R117), the history (R22) or `TIME`. -/
def Obligations.HostAccessWritesOnlyItsElements : Prop :=
  ∀ (i : Instr) (s t : State), exec i s = .next t →
    t.level = s.level ∧ t.busy = s.busy ∧ t.txf = s.txf ∧ t.bitPos = s.bitPos ∧ t.bitCnt = s.bitCnt ∧
    t.period = s.period ∧ t.hist = s.hist ∧ t.histOvf = s.histOvf ∧ t.time = s.time ∧ t.inputs = s.inputs ∧
    ((∃ v, i = .wrTxId v) ∨ t.txId = s.txId) ∧
    ((∃ v, i = .wrTxFmt v) ∨ t.txDlc = s.txDlc ∧ t.txExt = s.txExt) ∧
    ((∃ v, i = .wrTxData0 v) ∨ t.txData0 = s.txData0) ∧
    ((∃ v, i = .wrTxData1 v) ∨ t.txData1 = s.txData1) ∧
    ((∃ v, i = .wrBitTime v) ∨ t.bitTime = s.bitTime) ∧
    ((∃ v, i = .wrHistIndex v) ∨ t.histIndex = s.histIndex) ∧
    (i = .rdTimeLo ∨ t.timeHiLatch = s.timeHiLatch) ∧
    ((i = .enqueue ∨ ∃ v, i = .wrCmd v ∧ decodeCommand v = .enqueue) ∨ t.queue = s.queue) ∧
    ((i = .start ∨ i = .stop ∨ ∃ v, i = .wrCmd v ∧ (decodeCommand v = .start ∨ decodeCommand v = .stop)) ∨
      t.runState = s.runState) ∧
    ((i = .start ∨ i = .stop ∨ i = .enqueue ∨ (∃ op, i = .reservedOp47 op) ∨ (∃ op, i = .reservedOp8F op) ∨
      ∃ v, i = .wrCmd v ∧ decodeCommand v ≠ .nop) ∨ t.result = s.result)

/-- R19's "written by" column for the sequencer: it changes no host register, no result, no time; it ends the run state
only from STOPPING to STOPPED, and takes from the queue only its head. -/
def Obligations.SequencerWritesOnlyItsElements : Prop :=
  ∀ (c : Config) (s t : State), seqStep c s = .next t →
    t.txId = s.txId ∧ t.txDlc = s.txDlc ∧ t.txExt = s.txExt ∧ t.txData0 = s.txData0 ∧ t.txData1 = s.txData1 ∧
    t.result = s.result ∧ t.bitTime = s.bitTime ∧ t.histIndex = s.histIndex ∧ t.time = s.time ∧
    t.timeHiLatch = s.timeHiLatch ∧ t.rdata = s.rdata ∧ t.inputs = s.inputs ∧
    (t.runState = s.runState ∨ s.runState = .stopping ∧ t.runState = .stopped) ∧
    (t.queue = s.queue ∨ ∃ f, s.queue = f :: t.queue ∧ t.txf = some f) ∧
    (t.hist = s.hist ∨ ∃ f, s.txf = some f ∧ t.hist = s.hist ++ [f])

/-! ### The edge and the sequencer -/

/-- R107: one edge is the reset event alone, or else the access of the decoded instruction, the sequencer step on what
it leaves, and the `TIME` increment; `rdata` is 0 unless a read is performed. That the pins come from a schedule held in
the state and that `rdata` is held there are the model's choice (log 1, log 2). -/
def Obligations.EdgeRunsDecodedInstructionThenSequencer : Prop :=
  ∀ s : State,
    step s =
      if (currentPins s).rst then .next (resetEvent Config.params { s with inputs := s.inputs.tail, rdata := 0 })
      else
        andThen
          (if (currentPins s).req then
            exec (decodeAccess (currentPins s).access) { s with inputs := s.inputs.tail, rdata := 0 }
          else .next { s with inputs := s.inputs.tail, rdata := 0 })
          fun s1 => andThen (seqStep Config.params s1) fun s2 => .next { s2 with time := s2.time + 1 }

/-- A table word presented on the pins runs as the instruction its decoder gives (R46, R97, R107). How a word is
presented is the model's choice (log 1, log 7). -/
def Obligations.PresentedWordRunsItsInstruction : Prop :=
  ∀ (s : State) (nbits w : Nat) (i : Instr), decodeTableWord nbits w = some i →
    step (s.withFetchWord nbits w) =
      andThen (exec i { s with inputs := s.inputs.tail, rdata := 0 })
        fun s1 => andThen (seqStep Config.params s1) fun s2 => .next { s2 with time := s2.time + 1 }

/-- R113: bit hold. -/
def Obligations.BitHoldDecrementsBitCount : Prop :=
  ∀ (c : Config) (s : State), s.busy = true → 1 < s.bitCnt.toNat →
    ∃ t, seqStep c s = .next t ∧ t.bitCnt.toNat = s.bitCnt.toNat - 1 ∧ t = { s with bitCnt := t.bitCnt }

/-- R114: bit advance. -/
def Obligations.BitAdvanceShowsNextBit : Prop :=
  ∀ (c : Config) (s : State) (f : FrameRecord) (bits : List Bit), s.busy = true → s.bitCnt.toNat = 1 →
    s.txf = some f → encodeFrame f = .ok bits → ∀ h : s.bitPos.toNat + 1 < bits.length,
      ∃ t, seqStep c s = .next t ∧ t.bitPos.toNat = s.bitPos.toNat + 1 ∧
        t = { s with bitPos := t.bitPos, level := bits[s.bitPos.toNat + 1], bitCnt := s.period }

/-- R115: completion, with room in the history and without; `LEVEL` is already RECESSIVE where R26 holds. -/
def Obligations.CompletionReturnsToRecessive : Prop :=
  ∀ (c : Config) (s : State) (f : FrameRecord) (bits : List Bit), s.busy = true → s.bitCnt.toNat = 1 →
    s.txf = some f → encodeFrame f = .ok bits → s.bitPos.toNat + 1 = bits.length →
      (histHasRoom c.histDepth s.hist.length = true → seqStep c s = .next { s with
        level := recessive, hist := s.hist ++ [f], txf := none, busy := false, bitPos := 0, bitCnt := 0 }) ∧
      (∀ n h1 h2, c.histDepth = .bounded n h1 h2 → n ≤ s.hist.length → seqStep c s = .next { s with
        level := recessive, histOvf := true, txf := none, busy := false, bitPos := 0, bitCnt := 0 }) ∧
      (s.Good c → s.level = recessive)

/-- R109: dispatch of the head; `LEVEL` becomes DOMINANT because every frame starts with the start-of-frame bit. -/
def Obligations.DispatchTakesQueueHead : Prop :=
  ∀ (c : Config) (s : State) (f : FrameRecord) (rest : List FrameRecord), s.busy = false → s.runState = .running →
    s.queue = f :: rest → f.Valid →
      ∃ p : Word, p.toNat = max 1 s.bitTime.toNat ∧
        seqStep c s = .next { s with
          txf := some f, queue := rest, busy := true, period := p, bitCnt := p, bitPos := 0, level := dominant }

/-- R110: a pending stop takes effect at the first idle edge, before any dispatch. -/
def Obligations.StopTakesEffectWhenIdle : Prop :=
  ∀ (c : Config) (s : State), s.busy = false → s.runState = .stopping →
    seqStep c s = .next { s with runState := .stopped }

/-- R111: idle wait. -/
def Obligations.IdleWaitChangesNothing : Prop :=
  ∀ (c : Config) (s : State), s.busy = false →
    (s.runState = .stopped ∨ s.runState = .running ∧ s.queue = []) → seqStep c s = .next s

/-- R118: over any run without reset `TIME` advances by one per edge, modulo 2^64; a reset edge makes it 0. -/
def Obligations.TimeCountsEdges : Prop :=
  (∀ (k : Nat) (s t : State), NoReset k s → run k s = .next t → t.time = s.time + BitVec.ofNat 64 k) ∧
  (∀ (k : Nat) (pins : List Pins) (t : State), NoReset k { State.reset with inputs := pins } →
    run k { State.reset with inputs := pins } = .next t → t.time.toNat = k % 2 ^ 64) ∧
  (∀ s t : State, (currentPins s).rst = true → step s = .next t → t.time = 0)

/-- R140, R141: a reset edge puts every element at its reset value, whatever the state and the access presented: the
access is not performed, no sequencer step runs, and a frame in flight is abandoned. -/
def Obligations.ResetEdgeRestoresResetState : Prop :=
  ∀ s : State, (currentPins s).rst = true → ∃ t, step s = .next t ∧
    t.txId = 0 ∧ t.txDlc = 0 ∧ t.txExt = false ∧ t.txData0 = 0 ∧ t.txData1 = 0 ∧ t.result = .ok ∧
    t.runState = .stopped ∧ t.level = recessive ∧ t.busy = false ∧ t.txf = none ∧ t.bitPos = 0 ∧ t.bitCnt = 0 ∧
    t.period = 0 ∧ t.queue = [] ∧ t.hist = [] ∧ t.histOvf = false ∧ t.bitTime = Config.params.bitTimeReset ∧
    t.histIndex = 0 ∧ t.time = 0 ∧ t.timeHiLatch = 0 ∧ t.rdata = 0 ∧ t.inputs = s.inputs.tail ∧
    t = { State.reset with inputs := s.inputs.tail }

/-- R140, R142: while `rst` is held, every edge leaves the reset state. -/
def Obligations.ResetHeldKeepsResetState : Prop :=
  ∀ (k : Nat) (s : State), k + 1 ≤ s.inputs.length → (∀ p ∈ s.inputs.take (k + 1), p.rst = true) →
    run (k + 1) s = .next { State.reset with inputs := s.inputs.drop (k + 1) }

/-- R140, R30: after reset `STATUS` reads 0x00000001, `BIT_TIME` its parameter, every other offset 0. -/
def Obligations.ResetRegistersReadTheirResetValues : Prop :=
  ∀ addr : Byte, readValue (addr &&& 0xFC) State.reset =
    .ok (if addr &&& 0xFC = 0x18 then 0x00000001 else if addr &&& 0xFC = 0x1C then Config.params.bitTimeReset else 0)

/-- R26, R17, R16: every step, with any access and any reset, keeps what holds of every reachable state. -/
def Obligations.EveryStepKeepsGoodState : Prop :=
  ∀ s t : State, s.Good Config.params → step s = .next t → t.Good Config.params

/-- R26: the reset state, with any schedule of pins, satisfies the invariant. -/
def Obligations.ResetStateIsGood : Prop :=
  ∀ pins : List Pins, State.Good Config.params { State.reset with inputs := pins }

/-- R125, R130, R84: from reset and under every schedule of pins every edge has a next state: no edge is stuck, faults
or is refused, so `encode` is never applied to an invalid record. -/
def Obligations.EveryScheduleRunsFromReset : Prop :=
  ∀ (pins : List Pins) (k : Nat), ∃ t, run k { State.reset with inputs := pins } = .next t ∧ t.Good Config.params

/-- R123: in every state reachable from reset, an idle bus is RECESSIVE. -/
def Obligations.IdleBusIsRecessive : Prop :=
  ∀ (pins : List Pins) (k : Nat) (t : State), run k { State.reset with inputs := pins } = .next t →
    t.busy = false → busTx t = recessive

/-- R117: without reset, whatever the host does, a frame in flight stays in flight with its period, or completes. -/
def Obligations.FrameInFlightIsNotCancelled : Prop :=
  ∀ (s t : State) (f : FrameRecord), s.busy = true → s.txf = some f → (currentPins s).rst = false → step s = .next t →
    t.period = s.period ∧
    (t.busy = true ∧ t.txf = some f ∧ s.bitPos.toNat ≤ t.bitPos.toNat ∧ completesNow s = false ∧ t.hist = s.hist ∨
     t.busy = false ∧ t.txf = none ∧ completesNow s = true ∧
       t.hist = if histHasRoom Config.params.histDepth s.hist.length then s.hist ++ [f] else s.hist)

/-- R119: from the state that a dispatch leaves, and whatever accesses the host makes, bit `i` is on the bus for
exactly `P` edges, and the frame completes after `L * P` edges. -/
def Obligations.EveryBitLastsThePeriod : Prop :=
  ∀ (s : State) (f : FrameRecord) (bits : List Bit), s.busy = true → s.txf = some f → encodeFrame f = .ok bits →
    s.bitPos = 0 → s.level = dominant → 1 ≤ s.period.toNat → s.bitCnt = s.period →
    (∀ (i j : Nat) (h : i < bits.length), j < s.period.toNat → NoReset (i * s.period.toNat + j) s →
      ∃ t, run (i * s.period.toNat + j) s = .next t ∧ t.busy = true ∧ t.txf = some f ∧ t.bitPos.toNat = i ∧
        t.level = bits[i] ∧ t.bitCnt.toNat = s.period.toNat - j) ∧
    (NoReset (bits.length * s.period.toNat) s →
      ∃ t, run (bits.length * s.period.toNat) s = .next t ∧ t.busy = false ∧ t.txf = none ∧ t.level = recessive ∧
        t.hist = if histHasRoom Config.params.histDepth s.hist.length then s.hist ++ [f] else s.hist)

/-- R120: the edge after a completion dispatches the next queued frame, with one RECESSIVE cycle between. -/
def Obligations.BackToBackFramesHaveOneIdleEdge : Prop :=
  ∀ (s : State) (g : FrameRecord) (rest : List FrameRecord), s.Good Config.params → s.runState = .running →
    completesNow s = true → s.queue = g :: rest → NoReset 2 s →
    (∀ p ∈ s.inputs.take 2, p.commands 0x2 = false) →
      ∃ t u, step s = .next t ∧ t.busy = false ∧ t.level = recessive ∧
        step t = .next u ∧ u.busy = true ∧ u.txf = some g ∧ u.level = dominant ∧ u.bitPos = 0

/-- R121: with a stop pending and a frame in flight, whatever the host does short of reset, the frame completes within
`125 * PERIOD` edges, STOPPED follows one edge later, and no frame is dispatched until then. -/
def Obligations.StopLatencyIsBounded : Prop :=
  ∀ s : State, s.Good Config.params → s.runState = .stopping → s.busy = true → NoReset (125 * s.period.toNat + 1) s →
    ∃ n, 1 ≤ n ∧ n ≤ 125 * s.period.toNat ∧
      (∀ k, k < n → ∃ t, run k s = .next t ∧ t.busy = true ∧ t.txf = s.txf ∧ t.runState = .stopping) ∧
      (∃ t, run n s = .next t ∧ t.busy = false ∧ t.runState = .stopping) ∧
      (∃ t, run (n + 1) s = .next t ∧ t.busy = false ∧ t.runState = .stopped ∧ s.queue <+: t.queue)

/-- R23, R88, R121: over any run without reset and without START, a stopped and idle block dispatches nothing, whatever
else the host does: the queue keeps its frames and only grows by the frames accepted. -/
def Obligations.StoppedSequencerDispatchesNothing : Prop :=
  ∀ (k : Nat) (s : State), s.runState = .stopped → s.busy = false → NoReset k s →
    (∀ p ∈ s.inputs.take k, p.commands 0x1 = false) →
      ∃ t, run k s = .next t ∧ t.runState = .stopped ∧ t.busy = false ∧ t.txf = s.txf ∧ t.level = s.level ∧
        t.hist = s.hist ∧ t.queue = s.queue ++ acceptedOver k s

/-- R122: over any run without reset that discards nothing, the records held are those held before, in order, and then
those accepted, in order: nothing is reordered, duplicated or lost. -/
def Obligations.FramesKeepTheirOrder : Prop :=
  ∀ (k : Nat) (s t : State), s.Good Config.params → NoReset k s → discardedOver k s = 0 → run k s = .next t →
    pipeline t = pipeline s ++ acceptedOver k s

/-- R124: after any run from reset without a further reset, the accepted frames are those queued, in flight, in history
and discarded, and a discard has happened exactly when `HIST_OVF = 1`. -/
def Obligations.AcceptedFramesAreConserved : Prop :=
  ∀ (k : Nat) (pins : List Pins) (t : State), NoReset k { State.reset with inputs := pins } →
    run k { State.reset with inputs := pins } = .next t →
      (acceptedOver k { State.reset with inputs := pins }).length =
        t.queue.length + (if t.busy then 1 else 0) + t.hist.length +
          discardedOver k { State.reset with inputs := pins } ∧
      (0 < discardedOver k { State.reset with inputs := pins } ↔ t.histOvf = true)

/-- R22, R55, R150: over any run without reset, history entries neither change nor go, and `HIST_OVF` is sticky. -/
def Obligations.HistoryIsAppendOnly : Prop :=
  ∀ (k : Nat) (s t : State), NoReset k s → run k s = .next t →
    s.hist <+: t.hist ∧ (∀ j, j < s.hist.length → t.hist[j]? = s.hist[j]?) ∧ (s.histOvf = true → t.histOvf = true)

/-- R125, R154: running, idle, with `fs` at the head of the queue, and the host neither stopping, resetting nor changing
`BIT_TIME`: after exactly the sum of `L * P + 1` edges all of `fs` has been sent, and what fits is in the history. -/
def Obligations.QueuedFramesDrainInBoundedTime : Prop :=
  ∀ (s : State) (fs rest : List FrameRecord), s.Good Config.params → s.runState = .running → s.busy = false →
    s.queue = fs ++ rest →
    (∀ p ∈ s.inputs.take (edgesToSend (max 1 s.bitTime.toNat) fs),
      p.rst = false ∧ p.commands 0x2 = false ∧ p.writesBitTime = false) →
      ∃ t, run (edgesToSend (max 1 s.bitTime.toNat) fs) s = .next t ∧ t.busy = false ∧ t.runState = .running ∧
        t.hist = keptBy Config.params.histDepth (s.hist ++ fs) ∧ rest <+: t.queue

/-- R132: events at the same edge, cases (a) to (f). -/
def Obligations.SameEdgeEventsAreOrdered : Prop :=
  (∀ s : State, (currentPins s).commands 0x3 = true → s.runState = .running → s.busy = false → s.queue = [] →
    enqueueCode Config.params s = .ok →
      ∃ t, step s = .next t ∧ t.result = .ok ∧ t.busy = true ∧ t.txf = some (makeRecord s) ∧ t.queue = [] ∧
        t.level = dominant) ∧
  (∀ (s : State) (f : FrameRecord) (rest : List FrameRecord), (currentPins s).commands 0x1 = true →
    s.runState = .stopped → s.busy = false → s.queue = f :: rest → f.Valid →
      ∃ t, step s = .next t ∧ t.busy = true ∧ t.txf = some f ∧ t.queue = rest) ∧
  (∀ s : State, (currentPins s).commands 0x2 = true → s.runState = .running → s.busy = false →
    ∃ t, step s = .next t ∧ t.runState = .stopped) ∧
  (∀ s : State, (currentPins s).commands 0x2 = true → s.runState = .running → completesNow s = true →
    ∃ t, step s = .next t ∧ t.busy = false ∧ t.runState = .stopping ∧
      ((currentPins t).rst = false → ∃ u, step t = .next u ∧ u.runState = .stopped)) ∧
  (∀ s : State, (currentPins s).commands 0x3 = true → completesNow s = true →
    ∃ t, step s = .next t ∧ t.busy = false ∧ t.queue = s.queue ++ (acceptedNow s).toList) ∧
  (∀ (c : Config) (s : State) (f : FrameRecord) (rest : List FrameRecord), enqueueCode c s = .errQFull →
    s.runState = .running → s.busy = false → s.queue = f :: rest → f.Valid →
      ∃ t, seqStep c (enqueueCommand c s) = .next t ∧ t.result = .errQFull ∧ t.queue = rest ∧ t.txf = some f)

/-! ### The frame encoder -/

/-- R63, R82: the length of an encoded frame. -/
def Obligations.EncodedLength : Prop :=
  ∀ (f : FrameRecord) (bits : List Bit), encodeFrame f = .ok bits →
    bits.length = 1 + (if f.ext then 29 else 11) + (if f.ext then 2 else 3) + 4 + 8 * f.dlc.toNat + 15 + 3 + 7 ∧
    bits.length = (if f.ext then 61 else 44) + 8 * f.dlc.toNat ∧ 44 ≤ bits.length ∧ bits.length ≤ 125

/-- R61: every bit of a standard frame, by position. -/
def Obligations.StandardFrameLayout : Prop :=
  ∀ f : FrameRecord, f.Valid → f.ext = false → ∃ bits, encodeFrame f = .ok bits ∧ ∀ p : Nat,
    bits[p]? =
      if p = 0 then some dominant
      else if p ≤ 11 then some (f.id.getLsbD (11 - p))
      else if p ≤ 14 then some dominant
      else if p ≤ 18 then some (f.dlc.getLsbD (18 - p))
      else if p < 19 + 8 * f.dlc.toNat then
        f.payload.toList[(p - 19) / 8]?.map fun b => b.getLsbD (7 - (p - 19 - 8 * ((p - 19) / 8)))
      else if p ≤ 43 + 8 * f.dlc.toNat then some recessive
      else none

/-- R62: every bit of an extended frame, by position. -/
def Obligations.ExtendedFrameLayout : Prop :=
  ∀ f : FrameRecord, f.Valid → f.ext = true → ∃ bits, encodeFrame f = .ok bits ∧ ∀ p : Nat,
    bits[p]? =
      if p = 0 then some dominant
      else if p ≤ 29 then some (f.id.getLsbD (29 - p))
      else if p ≤ 31 then some recessive
      else if p ≤ 35 then some (f.dlc.getLsbD (35 - p))
      else if p < 36 + 8 * f.dlc.toNat then
        f.payload.toList[(p - 36) / 8]?.map fun b => b.getLsbD (7 - (p - 36 - 8 * ((p - 36) / 8)))
      else if p ≤ 60 + 8 * f.dlc.toNat then some recessive
      else none

/-- R64: `encode` loses no field that is on the wire: it is injective on class, length, identifier and payload. -/
def Obligations.EncodingLosesNoField : Prop :=
  ∀ (f g : FrameRecord) (bits : List Bit), encodeFrame f = .ok bits → encodeFrame g = .ok bits →
    f.ext = g.ext ∧ f.dlc = g.dlc ∧ f.id = g.id ∧
      f.payload.toList.take f.dlc.toNat = g.payload.toList.take g.dlc.toNat

/-- R72: `encode` reads only `id`, `ext`, `dlc` and `payload[0..dlc-1]`, never `ts`. -/
def Obligations.EncodingReadsOnlyWireFields : Prop :=
  ∀ f g : FrameRecord, f.ext = g.ext → f.dlc = g.dlc → f.id = g.id →
    f.payload.toList.take f.dlc.toNat = g.payload.toList.take g.dlc.toNat → encodeFrame f = encodeFrame g

/-- R84: applying `encode` to an invalid record is a refusal, not a value; R72: on a valid record it never fails. -/
def Obligations.EncodingRefusesInvalidRecords : Prop :=
  ∀ f : FrameRecord, (¬ f.Valid → encodeFrame f = .error .invalidRecord) ∧ (f.Valid → ∃ bits, encodeFrame f = .ok bits)

/-- R74, R81: every frame begins with one DOMINANT bit, and its last 25 bits are RECESSIVE. -/
def Obligations.FramesStartDominantEndRecessive : Prop :=
  ∀ (f : FrameRecord) (bits : List Bit), encodeFrame f = .ok bits →
    bits[0]? = some dominant ∧ bits.drop (bits.length - 25) = List.replicate 25 recessive ∧ 25 ≤ bits.length
end

