-- ==== Sys2Proof/Laws/Config.lean ====
section
/-! SUPPORT. The types of the parameters are exactly R7's domains. -/

namespace Sys2Proof

/-- Every value of the type is positive. -/
@[simp] theorem PositiveReal.toReal_pos (x : PositiveReal) : 0 < x.toReal :=
  NNReal.coe_pos.2 (pos_iff_ne_zero.2 x.ne_zero)

/-- Every positive real is a value of the type. -/
theorem PositiveReal.exists_toReal_eq (r : ℝ) (h : 0 < r) : ∃ x : PositiveReal, x.toReal = r :=
  ⟨Units.mk0 ⟨r, h.le⟩ fun e => h.ne' (congrArg Subtype.val e), rfl⟩

/-- Two values of the type that are the same real are equal. -/
theorem PositiveReal.toReal_injective : Function.Injective PositiveReal.toReal :=
  fun _ _ h => Units.ext (Subtype.ext h)

/-- Every configuration, and so the block's own `Config.params`, lies in R7's domains. -/
theorem Config.inDomain (c : Config) : c.InDomain :=
  ⟨fun _ h1 h2 _ => ⟨h1, h2⟩, fun _ h1 h2 _ => ⟨h1, h2⟩, Nat.le_sub_one_of_lt c.bitTimeReset.isLt,
    c.fClk.toReal_pos⟩

end Sys2Proof
end

