-- ==== Sys2Proof/Laws/Encoder.lean ====
section
/-! SUPPORT. The lengths of the wire fields (R63), the bits of a field (R75), and the first bit of a frame (R74). -/

/- One declaration at a time: elaborating many small theorems at once asks for more threads than a memory limit allows. -/
set_option Elab.async false

namespace Sys2Proof.Machine

@[simp] theorem msbFirst_length {w : Nat} (v : BitVec w) (n : Nat) : (msbFirst v n).length = n := by
  induction n with
  | zero => rfl
  | succ n ih => simp [msbFirst, ih]

/-- Bit `j` of an `n`-bit field is bit `n-1-j` of the value (R75, R77). -/
theorem msbFirst_getElem? {w : Nat} (v : BitVec w) (n j : Nat) (h : j < n) :
    (msbFirst v n)[j]? = some (v.getLsbD (n - 1 - j)) := by
  induction n generalizing j with
  | zero => omega
  | succ n ih =>
    cases j with
    | zero => simp [msbFirst]
    | succ j =>
      simp only [msbFirst, List.getElem?_cons_succ]
      rw [ih j (by omega)]
      congr 2
      omega

@[simp] theorem startOfFrame_length : startOfFrame.length = 1 := rfl

@[simp] theorem identifierBits_length (f : FrameRecord) : (identifierBits f).length = f.idWidth := by
  simp [identifierBits]

theorem formatControl_length (f : FrameRecord) : (formatControl f).length = if f.ext then 2 else 3 := by
  unfold formatControl; split <;> rfl

@[simp] theorem dataLengthBits_length (f : FrameRecord) : (dataLengthBits f).length = 4 := by simp [dataLengthBits]

theorem byteFields_length (l : List Byte) : (l.flatMap fun b => msbFirst b 8).length = 8 * l.length := by
  induction l with
  | nil => rfl
  | cons b l ih => simp [List.flatMap_cons, ih]; omega

theorem payloadBits_length (f : FrameRecord) (h : f.dlc.toNat ≤ 8) : (payloadBits f).length = 8 * f.dlc.toNat := by
  rw [payloadBits, byteFields_length, List.length_take, Vector.length_toList]; omega

@[simp] theorem crcPlaceholder_length : crcPlaceholder.length = 15 := by simp [crcPlaceholder]

@[simp] theorem delimiterAck_length : delimiterAck.length = 3 := by simp [delimiterAck]

@[simp] theorem endOfFrame_length : endOfFrame.length = 7 := by simp [endOfFrame]

/-- The eight fields joined, in R60's order. -/
theorem frameBits_eq (f : FrameRecord) :
    frameBits f = startOfFrame ++ (identifierBits f ++ (formatControl f ++ (dataLengthBits f ++ (payloadBits f ++
      (crcPlaceholder ++ (delimiterAck ++ endOfFrame)))))) := by
  simp [frameBits, wireFields]

/-- `encode` on a valid record is the pseudocode of R73. -/
theorem encodeFrame_ok_iff {f : FrameRecord} {bits : List Bit} :
    encodeFrame f = .ok bits ↔ f.Valid ∧ bits = frameBits f := by
  unfold encodeFrame
  split
  · next h => exact ⟨fun e => ⟨h, by cases e; rfl⟩, fun e => by rw [e.2]⟩
  · next h => exact ⟨fun e => (nomatch e), fun e => absurd e.1 h⟩

/-- The first bit of every frame is DOMINANT (R74). -/
theorem frameBits_head (f : FrameRecord) : (frameBits f).headD dominant = dominant := by
  simp [frameBits_eq, startOfFrame]

theorem frameBits_zero (f : FrameRecord) : (frameBits f)[0]? = some dominant := by
  simp [frameBits_eq, startOfFrame]

/-- The trailer of every frame: its last 25 bits, all RECESSIVE (R79, R80, R81). -/
theorem frameBits_trailer (f : FrameRecord) :
    ∃ front, frameBits f = front ++ List.replicate 25 recessive := by
  refine ⟨startOfFrame ++ (identifierBits f ++ (formatControl f ++ (dataLengthBits f ++ payloadBits f))), ?_⟩
  simp [frameBits_eq, crcPlaceholder, delimiterAck, endOfFrame]

end Sys2Proof.Machine
end

