-- ==== Sys2Proof/Laws/State.lean ====
section
/-! SUPPORT. One lemma per field per named update of the state: the field's new value, or that it is unchanged. -/

/- One declaration at a time: elaborating many small theorems at once asks for more threads than a memory limit allows. -/
set_option Elab.async false

namespace Sys2Proof.Machine

/-! ### returnData -/

@[simp] theorem returnData_txId (v : Word) (s : State) : (returnData v s).txId = s.txId := rfl
@[simp] theorem returnData_txDlc (v : Word) (s : State) : (returnData v s).txDlc = s.txDlc := rfl
@[simp] theorem returnData_txExt (v : Word) (s : State) : (returnData v s).txExt = s.txExt := rfl
@[simp] theorem returnData_txData0 (v : Word) (s : State) : (returnData v s).txData0 = s.txData0 := rfl
@[simp] theorem returnData_txData1 (v : Word) (s : State) : (returnData v s).txData1 = s.txData1 := rfl
@[simp] theorem returnData_result (v : Word) (s : State) : (returnData v s).result = s.result := rfl
@[simp] theorem returnData_runState (v : Word) (s : State) : (returnData v s).runState = s.runState := rfl
@[simp] theorem returnData_level (v : Word) (s : State) : (returnData v s).level = s.level := rfl
@[simp] theorem returnData_busy (v : Word) (s : State) : (returnData v s).busy = s.busy := rfl
@[simp] theorem returnData_txf (v : Word) (s : State) : (returnData v s).txf = s.txf := rfl
@[simp] theorem returnData_bitPos (v : Word) (s : State) : (returnData v s).bitPos = s.bitPos := rfl
@[simp] theorem returnData_bitCnt (v : Word) (s : State) : (returnData v s).bitCnt = s.bitCnt := rfl
@[simp] theorem returnData_period (v : Word) (s : State) : (returnData v s).period = s.period := rfl
@[simp] theorem returnData_queue (v : Word) (s : State) : (returnData v s).queue = s.queue := rfl
@[simp] theorem returnData_hist (v : Word) (s : State) : (returnData v s).hist = s.hist := rfl
@[simp] theorem returnData_histOvf (v : Word) (s : State) : (returnData v s).histOvf = s.histOvf := rfl
@[simp] theorem returnData_bitTime (v : Word) (s : State) : (returnData v s).bitTime = s.bitTime := rfl
@[simp] theorem returnData_histIndex (v : Word) (s : State) : (returnData v s).histIndex = s.histIndex := rfl
@[simp] theorem returnData_time (v : Word) (s : State) : (returnData v s).time = s.time := rfl
@[simp] theorem returnData_timeHiLatch (v : Word) (s : State) : (returnData v s).timeHiLatch = s.timeHiLatch := rfl
@[simp] theorem returnData_rdata (v : Word) (s : State) : (returnData v s).rdata = v := rfl
@[simp] theorem returnData_inputs (v : Word) (s : State) : (returnData v s).inputs = s.inputs := rfl

/-! ### latchTimeHi -/

@[simp] theorem latchTimeHi_txId (s : State) : (latchTimeHi s).txId = s.txId := rfl
@[simp] theorem latchTimeHi_txDlc (s : State) : (latchTimeHi s).txDlc = s.txDlc := rfl
@[simp] theorem latchTimeHi_txExt (s : State) : (latchTimeHi s).txExt = s.txExt := rfl
@[simp] theorem latchTimeHi_txData0 (s : State) : (latchTimeHi s).txData0 = s.txData0 := rfl
@[simp] theorem latchTimeHi_txData1 (s : State) : (latchTimeHi s).txData1 = s.txData1 := rfl
@[simp] theorem latchTimeHi_result (s : State) : (latchTimeHi s).result = s.result := rfl
@[simp] theorem latchTimeHi_runState (s : State) : (latchTimeHi s).runState = s.runState := rfl
@[simp] theorem latchTimeHi_level (s : State) : (latchTimeHi s).level = s.level := rfl
@[simp] theorem latchTimeHi_busy (s : State) : (latchTimeHi s).busy = s.busy := rfl
@[simp] theorem latchTimeHi_txf (s : State) : (latchTimeHi s).txf = s.txf := rfl
@[simp] theorem latchTimeHi_bitPos (s : State) : (latchTimeHi s).bitPos = s.bitPos := rfl
@[simp] theorem latchTimeHi_bitCnt (s : State) : (latchTimeHi s).bitCnt = s.bitCnt := rfl
@[simp] theorem latchTimeHi_period (s : State) : (latchTimeHi s).period = s.period := rfl
@[simp] theorem latchTimeHi_queue (s : State) : (latchTimeHi s).queue = s.queue := rfl
@[simp] theorem latchTimeHi_hist (s : State) : (latchTimeHi s).hist = s.hist := rfl
@[simp] theorem latchTimeHi_histOvf (s : State) : (latchTimeHi s).histOvf = s.histOvf := rfl
@[simp] theorem latchTimeHi_bitTime (s : State) : (latchTimeHi s).bitTime = s.bitTime := rfl
@[simp] theorem latchTimeHi_histIndex (s : State) : (latchTimeHi s).histIndex = s.histIndex := rfl
@[simp] theorem latchTimeHi_time (s : State) : (latchTimeHi s).time = s.time := rfl
@[simp] theorem latchTimeHi_timeHiLatch (s : State) : (latchTimeHi s).timeHiLatch = highWord s.time := rfl
@[simp] theorem latchTimeHi_rdata (s : State) : (latchTimeHi s).rdata = s.rdata := rfl
@[simp] theorem latchTimeHi_inputs (s : State) : (latchTimeHi s).inputs = s.inputs := rfl

/-! ### writeTxId -/

@[simp] theorem writeTxId_txId (v : Word) (s : State) : (writeTxId v s).txId = v := rfl
@[simp] theorem writeTxId_txDlc (v : Word) (s : State) : (writeTxId v s).txDlc = s.txDlc := rfl
@[simp] theorem writeTxId_txExt (v : Word) (s : State) : (writeTxId v s).txExt = s.txExt := rfl
@[simp] theorem writeTxId_txData0 (v : Word) (s : State) : (writeTxId v s).txData0 = s.txData0 := rfl
@[simp] theorem writeTxId_txData1 (v : Word) (s : State) : (writeTxId v s).txData1 = s.txData1 := rfl
@[simp] theorem writeTxId_result (v : Word) (s : State) : (writeTxId v s).result = s.result := rfl
@[simp] theorem writeTxId_runState (v : Word) (s : State) : (writeTxId v s).runState = s.runState := rfl
@[simp] theorem writeTxId_level (v : Word) (s : State) : (writeTxId v s).level = s.level := rfl
@[simp] theorem writeTxId_busy (v : Word) (s : State) : (writeTxId v s).busy = s.busy := rfl
@[simp] theorem writeTxId_txf (v : Word) (s : State) : (writeTxId v s).txf = s.txf := rfl
@[simp] theorem writeTxId_bitPos (v : Word) (s : State) : (writeTxId v s).bitPos = s.bitPos := rfl
@[simp] theorem writeTxId_bitCnt (v : Word) (s : State) : (writeTxId v s).bitCnt = s.bitCnt := rfl
@[simp] theorem writeTxId_period (v : Word) (s : State) : (writeTxId v s).period = s.period := rfl
@[simp] theorem writeTxId_queue (v : Word) (s : State) : (writeTxId v s).queue = s.queue := rfl
@[simp] theorem writeTxId_hist (v : Word) (s : State) : (writeTxId v s).hist = s.hist := rfl
@[simp] theorem writeTxId_histOvf (v : Word) (s : State) : (writeTxId v s).histOvf = s.histOvf := rfl
@[simp] theorem writeTxId_bitTime (v : Word) (s : State) : (writeTxId v s).bitTime = s.bitTime := rfl
@[simp] theorem writeTxId_histIndex (v : Word) (s : State) : (writeTxId v s).histIndex = s.histIndex := rfl
@[simp] theorem writeTxId_time (v : Word) (s : State) : (writeTxId v s).time = s.time := rfl
@[simp] theorem writeTxId_timeHiLatch (v : Word) (s : State) : (writeTxId v s).timeHiLatch = s.timeHiLatch := rfl
@[simp] theorem writeTxId_rdata (v : Word) (s : State) : (writeTxId v s).rdata = s.rdata := rfl
@[simp] theorem writeTxId_inputs (v : Word) (s : State) : (writeTxId v s).inputs = s.inputs := rfl

/-! ### writeTxFmt -/

@[simp] theorem writeTxFmt_txId (v : Word) (s : State) : (writeTxFmt v s).txId = s.txId := rfl
@[simp] theorem writeTxFmt_txDlc (v : Word) (s : State) : (writeTxFmt v s).txDlc = v.extractLsb' 0 4 := rfl
@[simp] theorem writeTxFmt_txExt (v : Word) (s : State) : (writeTxFmt v s).txExt = v.getLsbD 8 := rfl
@[simp] theorem writeTxFmt_txData0 (v : Word) (s : State) : (writeTxFmt v s).txData0 = s.txData0 := rfl
@[simp] theorem writeTxFmt_txData1 (v : Word) (s : State) : (writeTxFmt v s).txData1 = s.txData1 := rfl
@[simp] theorem writeTxFmt_result (v : Word) (s : State) : (writeTxFmt v s).result = s.result := rfl
@[simp] theorem writeTxFmt_runState (v : Word) (s : State) : (writeTxFmt v s).runState = s.runState := rfl
@[simp] theorem writeTxFmt_level (v : Word) (s : State) : (writeTxFmt v s).level = s.level := rfl
@[simp] theorem writeTxFmt_busy (v : Word) (s : State) : (writeTxFmt v s).busy = s.busy := rfl
@[simp] theorem writeTxFmt_txf (v : Word) (s : State) : (writeTxFmt v s).txf = s.txf := rfl
@[simp] theorem writeTxFmt_bitPos (v : Word) (s : State) : (writeTxFmt v s).bitPos = s.bitPos := rfl
@[simp] theorem writeTxFmt_bitCnt (v : Word) (s : State) : (writeTxFmt v s).bitCnt = s.bitCnt := rfl
@[simp] theorem writeTxFmt_period (v : Word) (s : State) : (writeTxFmt v s).period = s.period := rfl
@[simp] theorem writeTxFmt_queue (v : Word) (s : State) : (writeTxFmt v s).queue = s.queue := rfl
@[simp] theorem writeTxFmt_hist (v : Word) (s : State) : (writeTxFmt v s).hist = s.hist := rfl
@[simp] theorem writeTxFmt_histOvf (v : Word) (s : State) : (writeTxFmt v s).histOvf = s.histOvf := rfl
@[simp] theorem writeTxFmt_bitTime (v : Word) (s : State) : (writeTxFmt v s).bitTime = s.bitTime := rfl
@[simp] theorem writeTxFmt_histIndex (v : Word) (s : State) : (writeTxFmt v s).histIndex = s.histIndex := rfl
@[simp] theorem writeTxFmt_time (v : Word) (s : State) : (writeTxFmt v s).time = s.time := rfl
@[simp] theorem writeTxFmt_timeHiLatch (v : Word) (s : State) : (writeTxFmt v s).timeHiLatch = s.timeHiLatch := rfl
@[simp] theorem writeTxFmt_rdata (v : Word) (s : State) : (writeTxFmt v s).rdata = s.rdata := rfl
@[simp] theorem writeTxFmt_inputs (v : Word) (s : State) : (writeTxFmt v s).inputs = s.inputs := rfl

/-! ### writeTxData0 -/

@[simp] theorem writeTxData0_txId (v : Word) (s : State) : (writeTxData0 v s).txId = s.txId := rfl
@[simp] theorem writeTxData0_txDlc (v : Word) (s : State) : (writeTxData0 v s).txDlc = s.txDlc := rfl
@[simp] theorem writeTxData0_txExt (v : Word) (s : State) : (writeTxData0 v s).txExt = s.txExt := rfl
@[simp] theorem writeTxData0_txData0 (v : Word) (s : State) : (writeTxData0 v s).txData0 = v := rfl
@[simp] theorem writeTxData0_txData1 (v : Word) (s : State) : (writeTxData0 v s).txData1 = s.txData1 := rfl
@[simp] theorem writeTxData0_result (v : Word) (s : State) : (writeTxData0 v s).result = s.result := rfl
@[simp] theorem writeTxData0_runState (v : Word) (s : State) : (writeTxData0 v s).runState = s.runState := rfl
@[simp] theorem writeTxData0_level (v : Word) (s : State) : (writeTxData0 v s).level = s.level := rfl
@[simp] theorem writeTxData0_busy (v : Word) (s : State) : (writeTxData0 v s).busy = s.busy := rfl
@[simp] theorem writeTxData0_txf (v : Word) (s : State) : (writeTxData0 v s).txf = s.txf := rfl
@[simp] theorem writeTxData0_bitPos (v : Word) (s : State) : (writeTxData0 v s).bitPos = s.bitPos := rfl
@[simp] theorem writeTxData0_bitCnt (v : Word) (s : State) : (writeTxData0 v s).bitCnt = s.bitCnt := rfl
@[simp] theorem writeTxData0_period (v : Word) (s : State) : (writeTxData0 v s).period = s.period := rfl
@[simp] theorem writeTxData0_queue (v : Word) (s : State) : (writeTxData0 v s).queue = s.queue := rfl
@[simp] theorem writeTxData0_hist (v : Word) (s : State) : (writeTxData0 v s).hist = s.hist := rfl
@[simp] theorem writeTxData0_histOvf (v : Word) (s : State) : (writeTxData0 v s).histOvf = s.histOvf := rfl
@[simp] theorem writeTxData0_bitTime (v : Word) (s : State) : (writeTxData0 v s).bitTime = s.bitTime := rfl
@[simp] theorem writeTxData0_histIndex (v : Word) (s : State) : (writeTxData0 v s).histIndex = s.histIndex := rfl
@[simp] theorem writeTxData0_time (v : Word) (s : State) : (writeTxData0 v s).time = s.time := rfl
@[simp] theorem writeTxData0_timeHiLatch (v : Word) (s : State) : (writeTxData0 v s).timeHiLatch = s.timeHiLatch := rfl
@[simp] theorem writeTxData0_rdata (v : Word) (s : State) : (writeTxData0 v s).rdata = s.rdata := rfl
@[simp] theorem writeTxData0_inputs (v : Word) (s : State) : (writeTxData0 v s).inputs = s.inputs := rfl

/-! ### writeTxData1 -/

@[simp] theorem writeTxData1_txId (v : Word) (s : State) : (writeTxData1 v s).txId = s.txId := rfl
@[simp] theorem writeTxData1_txDlc (v : Word) (s : State) : (writeTxData1 v s).txDlc = s.txDlc := rfl
@[simp] theorem writeTxData1_txExt (v : Word) (s : State) : (writeTxData1 v s).txExt = s.txExt := rfl
@[simp] theorem writeTxData1_txData0 (v : Word) (s : State) : (writeTxData1 v s).txData0 = s.txData0 := rfl
@[simp] theorem writeTxData1_txData1 (v : Word) (s : State) : (writeTxData1 v s).txData1 = v := rfl
@[simp] theorem writeTxData1_result (v : Word) (s : State) : (writeTxData1 v s).result = s.result := rfl
@[simp] theorem writeTxData1_runState (v : Word) (s : State) : (writeTxData1 v s).runState = s.runState := rfl
@[simp] theorem writeTxData1_level (v : Word) (s : State) : (writeTxData1 v s).level = s.level := rfl
@[simp] theorem writeTxData1_busy (v : Word) (s : State) : (writeTxData1 v s).busy = s.busy := rfl
@[simp] theorem writeTxData1_txf (v : Word) (s : State) : (writeTxData1 v s).txf = s.txf := rfl
@[simp] theorem writeTxData1_bitPos (v : Word) (s : State) : (writeTxData1 v s).bitPos = s.bitPos := rfl
@[simp] theorem writeTxData1_bitCnt (v : Word) (s : State) : (writeTxData1 v s).bitCnt = s.bitCnt := rfl
@[simp] theorem writeTxData1_period (v : Word) (s : State) : (writeTxData1 v s).period = s.period := rfl
@[simp] theorem writeTxData1_queue (v : Word) (s : State) : (writeTxData1 v s).queue = s.queue := rfl
@[simp] theorem writeTxData1_hist (v : Word) (s : State) : (writeTxData1 v s).hist = s.hist := rfl
@[simp] theorem writeTxData1_histOvf (v : Word) (s : State) : (writeTxData1 v s).histOvf = s.histOvf := rfl
@[simp] theorem writeTxData1_bitTime (v : Word) (s : State) : (writeTxData1 v s).bitTime = s.bitTime := rfl
@[simp] theorem writeTxData1_histIndex (v : Word) (s : State) : (writeTxData1 v s).histIndex = s.histIndex := rfl
@[simp] theorem writeTxData1_time (v : Word) (s : State) : (writeTxData1 v s).time = s.time := rfl
@[simp] theorem writeTxData1_timeHiLatch (v : Word) (s : State) : (writeTxData1 v s).timeHiLatch = s.timeHiLatch := rfl
@[simp] theorem writeTxData1_rdata (v : Word) (s : State) : (writeTxData1 v s).rdata = s.rdata := rfl
@[simp] theorem writeTxData1_inputs (v : Word) (s : State) : (writeTxData1 v s).inputs = s.inputs := rfl

/-! ### writeBitTime -/

@[simp] theorem writeBitTime_txId (v : Word) (s : State) : (writeBitTime v s).txId = s.txId := rfl
@[simp] theorem writeBitTime_txDlc (v : Word) (s : State) : (writeBitTime v s).txDlc = s.txDlc := rfl
@[simp] theorem writeBitTime_txExt (v : Word) (s : State) : (writeBitTime v s).txExt = s.txExt := rfl
@[simp] theorem writeBitTime_txData0 (v : Word) (s : State) : (writeBitTime v s).txData0 = s.txData0 := rfl
@[simp] theorem writeBitTime_txData1 (v : Word) (s : State) : (writeBitTime v s).txData1 = s.txData1 := rfl
@[simp] theorem writeBitTime_result (v : Word) (s : State) : (writeBitTime v s).result = s.result := rfl
@[simp] theorem writeBitTime_runState (v : Word) (s : State) : (writeBitTime v s).runState = s.runState := rfl
@[simp] theorem writeBitTime_level (v : Word) (s : State) : (writeBitTime v s).level = s.level := rfl
@[simp] theorem writeBitTime_busy (v : Word) (s : State) : (writeBitTime v s).busy = s.busy := rfl
@[simp] theorem writeBitTime_txf (v : Word) (s : State) : (writeBitTime v s).txf = s.txf := rfl
@[simp] theorem writeBitTime_bitPos (v : Word) (s : State) : (writeBitTime v s).bitPos = s.bitPos := rfl
@[simp] theorem writeBitTime_bitCnt (v : Word) (s : State) : (writeBitTime v s).bitCnt = s.bitCnt := rfl
@[simp] theorem writeBitTime_period (v : Word) (s : State) : (writeBitTime v s).period = s.period := rfl
@[simp] theorem writeBitTime_queue (v : Word) (s : State) : (writeBitTime v s).queue = s.queue := rfl
@[simp] theorem writeBitTime_hist (v : Word) (s : State) : (writeBitTime v s).hist = s.hist := rfl
@[simp] theorem writeBitTime_histOvf (v : Word) (s : State) : (writeBitTime v s).histOvf = s.histOvf := rfl
@[simp] theorem writeBitTime_bitTime (v : Word) (s : State) : (writeBitTime v s).bitTime = v := rfl
@[simp] theorem writeBitTime_histIndex (v : Word) (s : State) : (writeBitTime v s).histIndex = s.histIndex := rfl
@[simp] theorem writeBitTime_time (v : Word) (s : State) : (writeBitTime v s).time = s.time := rfl
@[simp] theorem writeBitTime_timeHiLatch (v : Word) (s : State) : (writeBitTime v s).timeHiLatch = s.timeHiLatch := rfl
@[simp] theorem writeBitTime_rdata (v : Word) (s : State) : (writeBitTime v s).rdata = s.rdata := rfl
@[simp] theorem writeBitTime_inputs (v : Word) (s : State) : (writeBitTime v s).inputs = s.inputs := rfl

/-! ### writeHistIndex -/

@[simp] theorem writeHistIndex_txId (v : Word) (s : State) : (writeHistIndex v s).txId = s.txId := rfl
@[simp] theorem writeHistIndex_txDlc (v : Word) (s : State) : (writeHistIndex v s).txDlc = s.txDlc := rfl
@[simp] theorem writeHistIndex_txExt (v : Word) (s : State) : (writeHistIndex v s).txExt = s.txExt := rfl
@[simp] theorem writeHistIndex_txData0 (v : Word) (s : State) : (writeHistIndex v s).txData0 = s.txData0 := rfl
@[simp] theorem writeHistIndex_txData1 (v : Word) (s : State) : (writeHistIndex v s).txData1 = s.txData1 := rfl
@[simp] theorem writeHistIndex_result (v : Word) (s : State) : (writeHistIndex v s).result = s.result := rfl
@[simp] theorem writeHistIndex_runState (v : Word) (s : State) : (writeHistIndex v s).runState = s.runState := rfl
@[simp] theorem writeHistIndex_level (v : Word) (s : State) : (writeHistIndex v s).level = s.level := rfl
@[simp] theorem writeHistIndex_busy (v : Word) (s : State) : (writeHistIndex v s).busy = s.busy := rfl
@[simp] theorem writeHistIndex_txf (v : Word) (s : State) : (writeHistIndex v s).txf = s.txf := rfl
@[simp] theorem writeHistIndex_bitPos (v : Word) (s : State) : (writeHistIndex v s).bitPos = s.bitPos := rfl
@[simp] theorem writeHistIndex_bitCnt (v : Word) (s : State) : (writeHistIndex v s).bitCnt = s.bitCnt := rfl
@[simp] theorem writeHistIndex_period (v : Word) (s : State) : (writeHistIndex v s).period = s.period := rfl
@[simp] theorem writeHistIndex_queue (v : Word) (s : State) : (writeHistIndex v s).queue = s.queue := rfl
@[simp] theorem writeHistIndex_hist (v : Word) (s : State) : (writeHistIndex v s).hist = s.hist := rfl
@[simp] theorem writeHistIndex_histOvf (v : Word) (s : State) : (writeHistIndex v s).histOvf = s.histOvf := rfl
@[simp] theorem writeHistIndex_bitTime (v : Word) (s : State) : (writeHistIndex v s).bitTime = s.bitTime := rfl
@[simp] theorem writeHistIndex_histIndex (v : Word) (s : State) : (writeHistIndex v s).histIndex = v := rfl
@[simp] theorem writeHistIndex_time (v : Word) (s : State) : (writeHistIndex v s).time = s.time := rfl
@[simp] theorem writeHistIndex_timeHiLatch (v : Word) (s : State) : (writeHistIndex v s).timeHiLatch = s.timeHiLatch := rfl
@[simp] theorem writeHistIndex_rdata (v : Word) (s : State) : (writeHistIndex v s).rdata = s.rdata := rfl
@[simp] theorem writeHistIndex_inputs (v : Word) (s : State) : (writeHistIndex v s).inputs = s.inputs := rfl

/-! ### reject -/

@[simp] theorem reject_txId (code : ResultCode) (s : State) : (reject code s).txId = s.txId := rfl
@[simp] theorem reject_txDlc (code : ResultCode) (s : State) : (reject code s).txDlc = s.txDlc := rfl
@[simp] theorem reject_txExt (code : ResultCode) (s : State) : (reject code s).txExt = s.txExt := rfl
@[simp] theorem reject_txData0 (code : ResultCode) (s : State) : (reject code s).txData0 = s.txData0 := rfl
@[simp] theorem reject_txData1 (code : ResultCode) (s : State) : (reject code s).txData1 = s.txData1 := rfl
@[simp] theorem reject_result (code : ResultCode) (s : State) : (reject code s).result = code := rfl
@[simp] theorem reject_runState (code : ResultCode) (s : State) : (reject code s).runState = s.runState := rfl
@[simp] theorem reject_level (code : ResultCode) (s : State) : (reject code s).level = s.level := rfl
@[simp] theorem reject_busy (code : ResultCode) (s : State) : (reject code s).busy = s.busy := rfl
@[simp] theorem reject_txf (code : ResultCode) (s : State) : (reject code s).txf = s.txf := rfl
@[simp] theorem reject_bitPos (code : ResultCode) (s : State) : (reject code s).bitPos = s.bitPos := rfl
@[simp] theorem reject_bitCnt (code : ResultCode) (s : State) : (reject code s).bitCnt = s.bitCnt := rfl
@[simp] theorem reject_period (code : ResultCode) (s : State) : (reject code s).period = s.period := rfl
@[simp] theorem reject_queue (code : ResultCode) (s : State) : (reject code s).queue = s.queue := rfl
@[simp] theorem reject_hist (code : ResultCode) (s : State) : (reject code s).hist = s.hist := rfl
@[simp] theorem reject_histOvf (code : ResultCode) (s : State) : (reject code s).histOvf = s.histOvf := rfl
@[simp] theorem reject_bitTime (code : ResultCode) (s : State) : (reject code s).bitTime = s.bitTime := rfl
@[simp] theorem reject_histIndex (code : ResultCode) (s : State) : (reject code s).histIndex = s.histIndex := rfl
@[simp] theorem reject_time (code : ResultCode) (s : State) : (reject code s).time = s.time := rfl
@[simp] theorem reject_timeHiLatch (code : ResultCode) (s : State) : (reject code s).timeHiLatch = s.timeHiLatch := rfl
@[simp] theorem reject_rdata (code : ResultCode) (s : State) : (reject code s).rdata = s.rdata := rfl
@[simp] theorem reject_inputs (code : ResultCode) (s : State) : (reject code s).inputs = s.inputs := rfl

/-! ### enqueueCommand -/

@[simp] theorem enqueueCommand_txId (c : Config) (s : State) : (enqueueCommand c s).txId = s.txId := rfl
@[simp] theorem enqueueCommand_txDlc (c : Config) (s : State) : (enqueueCommand c s).txDlc = s.txDlc := rfl
@[simp] theorem enqueueCommand_txExt (c : Config) (s : State) : (enqueueCommand c s).txExt = s.txExt := rfl
@[simp] theorem enqueueCommand_txData0 (c : Config) (s : State) : (enqueueCommand c s).txData0 = s.txData0 := rfl
@[simp] theorem enqueueCommand_txData1 (c : Config) (s : State) : (enqueueCommand c s).txData1 = s.txData1 := rfl
@[simp] theorem enqueueCommand_result (c : Config) (s : State) : (enqueueCommand c s).result = enqueueCode c s := rfl
@[simp] theorem enqueueCommand_runState (c : Config) (s : State) : (enqueueCommand c s).runState = s.runState := rfl
@[simp] theorem enqueueCommand_level (c : Config) (s : State) : (enqueueCommand c s).level = s.level := rfl
@[simp] theorem enqueueCommand_busy (c : Config) (s : State) : (enqueueCommand c s).busy = s.busy := rfl
@[simp] theorem enqueueCommand_txf (c : Config) (s : State) : (enqueueCommand c s).txf = s.txf := rfl
@[simp] theorem enqueueCommand_bitPos (c : Config) (s : State) : (enqueueCommand c s).bitPos = s.bitPos := rfl
@[simp] theorem enqueueCommand_bitCnt (c : Config) (s : State) : (enqueueCommand c s).bitCnt = s.bitCnt := rfl
@[simp] theorem enqueueCommand_period (c : Config) (s : State) : (enqueueCommand c s).period = s.period := rfl
@[simp] theorem enqueueCommand_queue (c : Config) (s : State) : (enqueueCommand c s).queue = if enqueueCode c s = .ok then s.queue ++ [makeRecord s] else s.queue := rfl
@[simp] theorem enqueueCommand_hist (c : Config) (s : State) : (enqueueCommand c s).hist = s.hist := rfl
@[simp] theorem enqueueCommand_histOvf (c : Config) (s : State) : (enqueueCommand c s).histOvf = s.histOvf := rfl
@[simp] theorem enqueueCommand_bitTime (c : Config) (s : State) : (enqueueCommand c s).bitTime = s.bitTime := rfl
@[simp] theorem enqueueCommand_histIndex (c : Config) (s : State) : (enqueueCommand c s).histIndex = s.histIndex := rfl
@[simp] theorem enqueueCommand_time (c : Config) (s : State) : (enqueueCommand c s).time = s.time := rfl
@[simp] theorem enqueueCommand_timeHiLatch (c : Config) (s : State) : (enqueueCommand c s).timeHiLatch = s.timeHiLatch := rfl
@[simp] theorem enqueueCommand_rdata (c : Config) (s : State) : (enqueueCommand c s).rdata = s.rdata := rfl
@[simp] theorem enqueueCommand_inputs (c : Config) (s : State) : (enqueueCommand c s).inputs = s.inputs := rfl

/-! ### beginEdge -/

@[simp] theorem beginEdge_txId (s : State) : (beginEdge s).txId = s.txId := rfl
@[simp] theorem beginEdge_txDlc (s : State) : (beginEdge s).txDlc = s.txDlc := rfl
@[simp] theorem beginEdge_txExt (s : State) : (beginEdge s).txExt = s.txExt := rfl
@[simp] theorem beginEdge_txData0 (s : State) : (beginEdge s).txData0 = s.txData0 := rfl
@[simp] theorem beginEdge_txData1 (s : State) : (beginEdge s).txData1 = s.txData1 := rfl
@[simp] theorem beginEdge_result (s : State) : (beginEdge s).result = s.result := rfl
@[simp] theorem beginEdge_runState (s : State) : (beginEdge s).runState = s.runState := rfl
@[simp] theorem beginEdge_level (s : State) : (beginEdge s).level = s.level := rfl
@[simp] theorem beginEdge_busy (s : State) : (beginEdge s).busy = s.busy := rfl
@[simp] theorem beginEdge_txf (s : State) : (beginEdge s).txf = s.txf := rfl
@[simp] theorem beginEdge_bitPos (s : State) : (beginEdge s).bitPos = s.bitPos := rfl
@[simp] theorem beginEdge_bitCnt (s : State) : (beginEdge s).bitCnt = s.bitCnt := rfl
@[simp] theorem beginEdge_period (s : State) : (beginEdge s).period = s.period := rfl
@[simp] theorem beginEdge_queue (s : State) : (beginEdge s).queue = s.queue := rfl
@[simp] theorem beginEdge_hist (s : State) : (beginEdge s).hist = s.hist := rfl
@[simp] theorem beginEdge_histOvf (s : State) : (beginEdge s).histOvf = s.histOvf := rfl
@[simp] theorem beginEdge_bitTime (s : State) : (beginEdge s).bitTime = s.bitTime := rfl
@[simp] theorem beginEdge_histIndex (s : State) : (beginEdge s).histIndex = s.histIndex := rfl
@[simp] theorem beginEdge_time (s : State) : (beginEdge s).time = s.time := rfl
@[simp] theorem beginEdge_timeHiLatch (s : State) : (beginEdge s).timeHiLatch = s.timeHiLatch := rfl
@[simp] theorem beginEdge_rdata (s : State) : (beginEdge s).rdata = 0 := rfl
@[simp] theorem beginEdge_inputs (s : State) : (beginEdge s).inputs = s.inputs.tail := rfl

/-! ### tick -/

@[simp] theorem tick_txId (s : State) : (tick s).txId = s.txId := rfl
@[simp] theorem tick_txDlc (s : State) : (tick s).txDlc = s.txDlc := rfl
@[simp] theorem tick_txExt (s : State) : (tick s).txExt = s.txExt := rfl
@[simp] theorem tick_txData0 (s : State) : (tick s).txData0 = s.txData0 := rfl
@[simp] theorem tick_txData1 (s : State) : (tick s).txData1 = s.txData1 := rfl
@[simp] theorem tick_result (s : State) : (tick s).result = s.result := rfl
@[simp] theorem tick_runState (s : State) : (tick s).runState = s.runState := rfl
@[simp] theorem tick_level (s : State) : (tick s).level = s.level := rfl
@[simp] theorem tick_busy (s : State) : (tick s).busy = s.busy := rfl
@[simp] theorem tick_txf (s : State) : (tick s).txf = s.txf := rfl
@[simp] theorem tick_bitPos (s : State) : (tick s).bitPos = s.bitPos := rfl
@[simp] theorem tick_bitCnt (s : State) : (tick s).bitCnt = s.bitCnt := rfl
@[simp] theorem tick_period (s : State) : (tick s).period = s.period := rfl
@[simp] theorem tick_queue (s : State) : (tick s).queue = s.queue := rfl
@[simp] theorem tick_hist (s : State) : (tick s).hist = s.hist := rfl
@[simp] theorem tick_histOvf (s : State) : (tick s).histOvf = s.histOvf := rfl
@[simp] theorem tick_bitTime (s : State) : (tick s).bitTime = s.bitTime := rfl
@[simp] theorem tick_histIndex (s : State) : (tick s).histIndex = s.histIndex := rfl
@[simp] theorem tick_time (s : State) : (tick s).time = s.time + 1 := rfl
@[simp] theorem tick_timeHiLatch (s : State) : (tick s).timeHiLatch = s.timeHiLatch := rfl
@[simp] theorem tick_rdata (s : State) : (tick s).rdata = s.rdata := rfl
@[simp] theorem tick_inputs (s : State) : (tick s).inputs = s.inputs := rfl

/-! ### bitHold -/

@[simp] theorem bitHold_txId (s : State) : (bitHold s).txId = s.txId := rfl
@[simp] theorem bitHold_txDlc (s : State) : (bitHold s).txDlc = s.txDlc := rfl
@[simp] theorem bitHold_txExt (s : State) : (bitHold s).txExt = s.txExt := rfl
@[simp] theorem bitHold_txData0 (s : State) : (bitHold s).txData0 = s.txData0 := rfl
@[simp] theorem bitHold_txData1 (s : State) : (bitHold s).txData1 = s.txData1 := rfl
@[simp] theorem bitHold_result (s : State) : (bitHold s).result = s.result := rfl
@[simp] theorem bitHold_runState (s : State) : (bitHold s).runState = s.runState := rfl
@[simp] theorem bitHold_level (s : State) : (bitHold s).level = s.level := rfl
@[simp] theorem bitHold_busy (s : State) : (bitHold s).busy = s.busy := rfl
@[simp] theorem bitHold_txf (s : State) : (bitHold s).txf = s.txf := rfl
@[simp] theorem bitHold_bitPos (s : State) : (bitHold s).bitPos = s.bitPos := rfl
@[simp] theorem bitHold_bitCnt (s : State) : (bitHold s).bitCnt = s.bitCnt - 1 := rfl
@[simp] theorem bitHold_period (s : State) : (bitHold s).period = s.period := rfl
@[simp] theorem bitHold_queue (s : State) : (bitHold s).queue = s.queue := rfl
@[simp] theorem bitHold_hist (s : State) : (bitHold s).hist = s.hist := rfl
@[simp] theorem bitHold_histOvf (s : State) : (bitHold s).histOvf = s.histOvf := rfl
@[simp] theorem bitHold_bitTime (s : State) : (bitHold s).bitTime = s.bitTime := rfl
@[simp] theorem bitHold_histIndex (s : State) : (bitHold s).histIndex = s.histIndex := rfl
@[simp] theorem bitHold_time (s : State) : (bitHold s).time = s.time := rfl
@[simp] theorem bitHold_timeHiLatch (s : State) : (bitHold s).timeHiLatch = s.timeHiLatch := rfl
@[simp] theorem bitHold_rdata (s : State) : (bitHold s).rdata = s.rdata := rfl
@[simp] theorem bitHold_inputs (s : State) : (bitHold s).inputs = s.inputs := rfl

/-! ### bitAdvance -/

@[simp] theorem bitAdvance_txId (b : Bit) (s : State) : (bitAdvance b s).txId = s.txId := rfl
@[simp] theorem bitAdvance_txDlc (b : Bit) (s : State) : (bitAdvance b s).txDlc = s.txDlc := rfl
@[simp] theorem bitAdvance_txExt (b : Bit) (s : State) : (bitAdvance b s).txExt = s.txExt := rfl
@[simp] theorem bitAdvance_txData0 (b : Bit) (s : State) : (bitAdvance b s).txData0 = s.txData0 := rfl
@[simp] theorem bitAdvance_txData1 (b : Bit) (s : State) : (bitAdvance b s).txData1 = s.txData1 := rfl
@[simp] theorem bitAdvance_result (b : Bit) (s : State) : (bitAdvance b s).result = s.result := rfl
@[simp] theorem bitAdvance_runState (b : Bit) (s : State) : (bitAdvance b s).runState = s.runState := rfl
@[simp] theorem bitAdvance_level (b : Bit) (s : State) : (bitAdvance b s).level = b := rfl
@[simp] theorem bitAdvance_busy (b : Bit) (s : State) : (bitAdvance b s).busy = s.busy := rfl
@[simp] theorem bitAdvance_txf (b : Bit) (s : State) : (bitAdvance b s).txf = s.txf := rfl
@[simp] theorem bitAdvance_bitPos (b : Bit) (s : State) : (bitAdvance b s).bitPos = s.bitPos + 1 := rfl
@[simp] theorem bitAdvance_bitCnt (b : Bit) (s : State) : (bitAdvance b s).bitCnt = s.period := rfl
@[simp] theorem bitAdvance_period (b : Bit) (s : State) : (bitAdvance b s).period = s.period := rfl
@[simp] theorem bitAdvance_queue (b : Bit) (s : State) : (bitAdvance b s).queue = s.queue := rfl
@[simp] theorem bitAdvance_hist (b : Bit) (s : State) : (bitAdvance b s).hist = s.hist := rfl
@[simp] theorem bitAdvance_histOvf (b : Bit) (s : State) : (bitAdvance b s).histOvf = s.histOvf := rfl
@[simp] theorem bitAdvance_bitTime (b : Bit) (s : State) : (bitAdvance b s).bitTime = s.bitTime := rfl
@[simp] theorem bitAdvance_histIndex (b : Bit) (s : State) : (bitAdvance b s).histIndex = s.histIndex := rfl
@[simp] theorem bitAdvance_time (b : Bit) (s : State) : (bitAdvance b s).time = s.time := rfl
@[simp] theorem bitAdvance_timeHiLatch (b : Bit) (s : State) : (bitAdvance b s).timeHiLatch = s.timeHiLatch := rfl
@[simp] theorem bitAdvance_rdata (b : Bit) (s : State) : (bitAdvance b s).rdata = s.rdata := rfl
@[simp] theorem bitAdvance_inputs (b : Bit) (s : State) : (bitAdvance b s).inputs = s.inputs := rfl

/-! ### complete -/

@[simp] theorem complete_txId (c : Config) (f : FrameRecord) (s : State) : (complete c f s).txId = s.txId := rfl
@[simp] theorem complete_txDlc (c : Config) (f : FrameRecord) (s : State) : (complete c f s).txDlc = s.txDlc := rfl
@[simp] theorem complete_txExt (c : Config) (f : FrameRecord) (s : State) : (complete c f s).txExt = s.txExt := rfl
@[simp] theorem complete_txData0 (c : Config) (f : FrameRecord) (s : State) : (complete c f s).txData0 = s.txData0 := rfl
@[simp] theorem complete_txData1 (c : Config) (f : FrameRecord) (s : State) : (complete c f s).txData1 = s.txData1 := rfl
@[simp] theorem complete_result (c : Config) (f : FrameRecord) (s : State) : (complete c f s).result = s.result := rfl
@[simp] theorem complete_runState (c : Config) (f : FrameRecord) (s : State) : (complete c f s).runState = s.runState := rfl
@[simp] theorem complete_level (c : Config) (f : FrameRecord) (s : State) : (complete c f s).level = recessive := rfl
@[simp] theorem complete_busy (c : Config) (f : FrameRecord) (s : State) : (complete c f s).busy = false := rfl
@[simp] theorem complete_txf (c : Config) (f : FrameRecord) (s : State) : (complete c f s).txf = none := rfl
@[simp] theorem complete_bitPos (c : Config) (f : FrameRecord) (s : State) : (complete c f s).bitPos = 0 := rfl
@[simp] theorem complete_bitCnt (c : Config) (f : FrameRecord) (s : State) : (complete c f s).bitCnt = 0 := rfl
@[simp] theorem complete_period (c : Config) (f : FrameRecord) (s : State) : (complete c f s).period = s.period := rfl
@[simp] theorem complete_queue (c : Config) (f : FrameRecord) (s : State) : (complete c f s).queue = s.queue := rfl
@[simp] theorem complete_hist (c : Config) (f : FrameRecord) (s : State) : (complete c f s).hist = if histHasRoom c.histDepth s.hist.length then s.hist ++ [f] else s.hist := rfl
@[simp] theorem complete_histOvf (c : Config) (f : FrameRecord) (s : State) : (complete c f s).histOvf = if histHasRoom c.histDepth s.hist.length then s.histOvf else true := rfl
@[simp] theorem complete_bitTime (c : Config) (f : FrameRecord) (s : State) : (complete c f s).bitTime = s.bitTime := rfl
@[simp] theorem complete_histIndex (c : Config) (f : FrameRecord) (s : State) : (complete c f s).histIndex = s.histIndex := rfl
@[simp] theorem complete_time (c : Config) (f : FrameRecord) (s : State) : (complete c f s).time = s.time := rfl
@[simp] theorem complete_timeHiLatch (c : Config) (f : FrameRecord) (s : State) : (complete c f s).timeHiLatch = s.timeHiLatch := rfl
@[simp] theorem complete_rdata (c : Config) (f : FrameRecord) (s : State) : (complete c f s).rdata = s.rdata := rfl
@[simp] theorem complete_inputs (c : Config) (f : FrameRecord) (s : State) : (complete c f s).inputs = s.inputs := rfl

/-! ### dispatch -/

@[simp] theorem dispatch_txId (f : FrameRecord) (rest : List FrameRecord) (b : Bit) (s : State) : (dispatch f rest b s).txId = s.txId := rfl
@[simp] theorem dispatch_txDlc (f : FrameRecord) (rest : List FrameRecord) (b : Bit) (s : State) : (dispatch f rest b s).txDlc = s.txDlc := rfl
@[simp] theorem dispatch_txExt (f : FrameRecord) (rest : List FrameRecord) (b : Bit) (s : State) : (dispatch f rest b s).txExt = s.txExt := rfl
@[simp] theorem dispatch_txData0 (f : FrameRecord) (rest : List FrameRecord) (b : Bit) (s : State) : (dispatch f rest b s).txData0 = s.txData0 := rfl
@[simp] theorem dispatch_txData1 (f : FrameRecord) (rest : List FrameRecord) (b : Bit) (s : State) : (dispatch f rest b s).txData1 = s.txData1 := rfl
@[simp] theorem dispatch_result (f : FrameRecord) (rest : List FrameRecord) (b : Bit) (s : State) : (dispatch f rest b s).result = s.result := rfl
@[simp] theorem dispatch_runState (f : FrameRecord) (rest : List FrameRecord) (b : Bit) (s : State) : (dispatch f rest b s).runState = s.runState := rfl
@[simp] theorem dispatch_level (f : FrameRecord) (rest : List FrameRecord) (b : Bit) (s : State) : (dispatch f rest b s).level = b := rfl
@[simp] theorem dispatch_busy (f : FrameRecord) (rest : List FrameRecord) (b : Bit) (s : State) : (dispatch f rest b s).busy = true := rfl
@[simp] theorem dispatch_txf (f : FrameRecord) (rest : List FrameRecord) (b : Bit) (s : State) : (dispatch f rest b s).txf = some f := rfl
@[simp] theorem dispatch_bitPos (f : FrameRecord) (rest : List FrameRecord) (b : Bit) (s : State) : (dispatch f rest b s).bitPos = 0 := rfl
@[simp] theorem dispatch_bitCnt (f : FrameRecord) (rest : List FrameRecord) (b : Bit) (s : State) : (dispatch f rest b s).bitCnt = bitPeriod s.bitTime := rfl
@[simp] theorem dispatch_period (f : FrameRecord) (rest : List FrameRecord) (b : Bit) (s : State) : (dispatch f rest b s).period = bitPeriod s.bitTime := rfl
@[simp] theorem dispatch_queue (f : FrameRecord) (rest : List FrameRecord) (b : Bit) (s : State) : (dispatch f rest b s).queue = rest := rfl
@[simp] theorem dispatch_hist (f : FrameRecord) (rest : List FrameRecord) (b : Bit) (s : State) : (dispatch f rest b s).hist = s.hist := rfl
@[simp] theorem dispatch_histOvf (f : FrameRecord) (rest : List FrameRecord) (b : Bit) (s : State) : (dispatch f rest b s).histOvf = s.histOvf := rfl
@[simp] theorem dispatch_bitTime (f : FrameRecord) (rest : List FrameRecord) (b : Bit) (s : State) : (dispatch f rest b s).bitTime = s.bitTime := rfl
@[simp] theorem dispatch_histIndex (f : FrameRecord) (rest : List FrameRecord) (b : Bit) (s : State) : (dispatch f rest b s).histIndex = s.histIndex := rfl
@[simp] theorem dispatch_time (f : FrameRecord) (rest : List FrameRecord) (b : Bit) (s : State) : (dispatch f rest b s).time = s.time := rfl
@[simp] theorem dispatch_timeHiLatch (f : FrameRecord) (rest : List FrameRecord) (b : Bit) (s : State) : (dispatch f rest b s).timeHiLatch = s.timeHiLatch := rfl
@[simp] theorem dispatch_rdata (f : FrameRecord) (rest : List FrameRecord) (b : Bit) (s : State) : (dispatch f rest b s).rdata = s.rdata := rfl
@[simp] theorem dispatch_inputs (f : FrameRecord) (rest : List FrameRecord) (b : Bit) (s : State) : (dispatch f rest b s).inputs = s.inputs := rfl

/-! ### finishStop -/

@[simp] theorem finishStop_txId (s : State) : (finishStop s).txId = s.txId := rfl
@[simp] theorem finishStop_txDlc (s : State) : (finishStop s).txDlc = s.txDlc := rfl
@[simp] theorem finishStop_txExt (s : State) : (finishStop s).txExt = s.txExt := rfl
@[simp] theorem finishStop_txData0 (s : State) : (finishStop s).txData0 = s.txData0 := rfl
@[simp] theorem finishStop_txData1 (s : State) : (finishStop s).txData1 = s.txData1 := rfl
@[simp] theorem finishStop_result (s : State) : (finishStop s).result = s.result := rfl
@[simp] theorem finishStop_runState (s : State) : (finishStop s).runState = .stopped := rfl
@[simp] theorem finishStop_level (s : State) : (finishStop s).level = s.level := rfl
@[simp] theorem finishStop_busy (s : State) : (finishStop s).busy = s.busy := rfl
@[simp] theorem finishStop_txf (s : State) : (finishStop s).txf = s.txf := rfl
@[simp] theorem finishStop_bitPos (s : State) : (finishStop s).bitPos = s.bitPos := rfl
@[simp] theorem finishStop_bitCnt (s : State) : (finishStop s).bitCnt = s.bitCnt := rfl
@[simp] theorem finishStop_period (s : State) : (finishStop s).period = s.period := rfl
@[simp] theorem finishStop_queue (s : State) : (finishStop s).queue = s.queue := rfl
@[simp] theorem finishStop_hist (s : State) : (finishStop s).hist = s.hist := rfl
@[simp] theorem finishStop_histOvf (s : State) : (finishStop s).histOvf = s.histOvf := rfl
@[simp] theorem finishStop_bitTime (s : State) : (finishStop s).bitTime = s.bitTime := rfl
@[simp] theorem finishStop_histIndex (s : State) : (finishStop s).histIndex = s.histIndex := rfl
@[simp] theorem finishStop_time (s : State) : (finishStop s).time = s.time := rfl
@[simp] theorem finishStop_timeHiLatch (s : State) : (finishStop s).timeHiLatch = s.timeHiLatch := rfl
@[simp] theorem finishStop_rdata (s : State) : (finishStop s).rdata = s.rdata := rfl
@[simp] theorem finishStop_inputs (s : State) : (finishStop s).inputs = s.inputs := rfl

/-! ### presentPins -/

@[simp] theorem presentPins_txId (p : Pins) (s : State) : (presentPins p s).txId = s.txId := rfl
@[simp] theorem presentPins_txDlc (p : Pins) (s : State) : (presentPins p s).txDlc = s.txDlc := rfl
@[simp] theorem presentPins_txExt (p : Pins) (s : State) : (presentPins p s).txExt = s.txExt := rfl
@[simp] theorem presentPins_txData0 (p : Pins) (s : State) : (presentPins p s).txData0 = s.txData0 := rfl
@[simp] theorem presentPins_txData1 (p : Pins) (s : State) : (presentPins p s).txData1 = s.txData1 := rfl
@[simp] theorem presentPins_result (p : Pins) (s : State) : (presentPins p s).result = s.result := rfl
@[simp] theorem presentPins_runState (p : Pins) (s : State) : (presentPins p s).runState = s.runState := rfl
@[simp] theorem presentPins_level (p : Pins) (s : State) : (presentPins p s).level = s.level := rfl
@[simp] theorem presentPins_busy (p : Pins) (s : State) : (presentPins p s).busy = s.busy := rfl
@[simp] theorem presentPins_txf (p : Pins) (s : State) : (presentPins p s).txf = s.txf := rfl
@[simp] theorem presentPins_bitPos (p : Pins) (s : State) : (presentPins p s).bitPos = s.bitPos := rfl
@[simp] theorem presentPins_bitCnt (p : Pins) (s : State) : (presentPins p s).bitCnt = s.bitCnt := rfl
@[simp] theorem presentPins_period (p : Pins) (s : State) : (presentPins p s).period = s.period := rfl
@[simp] theorem presentPins_queue (p : Pins) (s : State) : (presentPins p s).queue = s.queue := rfl
@[simp] theorem presentPins_hist (p : Pins) (s : State) : (presentPins p s).hist = s.hist := rfl
@[simp] theorem presentPins_histOvf (p : Pins) (s : State) : (presentPins p s).histOvf = s.histOvf := rfl
@[simp] theorem presentPins_bitTime (p : Pins) (s : State) : (presentPins p s).bitTime = s.bitTime := rfl
@[simp] theorem presentPins_histIndex (p : Pins) (s : State) : (presentPins p s).histIndex = s.histIndex := rfl
@[simp] theorem presentPins_time (p : Pins) (s : State) : (presentPins p s).time = s.time := rfl
@[simp] theorem presentPins_timeHiLatch (p : Pins) (s : State) : (presentPins p s).timeHiLatch = s.timeHiLatch := rfl
@[simp] theorem presentPins_rdata (p : Pins) (s : State) : (presentPins p s).rdata = s.rdata := rfl
@[simp] theorem presentPins_inputs (p : Pins) (s : State) : (presentPins p s).inputs = p :: s.inputs.tail := rfl

/-! ### resetEvent -/

@[simp] theorem resetEvent_txId (c : Config) (s : State) : (resetEvent c s).txId = 0 := rfl
@[simp] theorem resetEvent_txDlc (c : Config) (s : State) : (resetEvent c s).txDlc = 0 := rfl
@[simp] theorem resetEvent_txExt (c : Config) (s : State) : (resetEvent c s).txExt = false := rfl
@[simp] theorem resetEvent_txData0 (c : Config) (s : State) : (resetEvent c s).txData0 = 0 := rfl
@[simp] theorem resetEvent_txData1 (c : Config) (s : State) : (resetEvent c s).txData1 = 0 := rfl
@[simp] theorem resetEvent_result (c : Config) (s : State) : (resetEvent c s).result = .ok := rfl
@[simp] theorem resetEvent_runState (c : Config) (s : State) : (resetEvent c s).runState = .stopped := rfl
@[simp] theorem resetEvent_level (c : Config) (s : State) : (resetEvent c s).level = recessive := rfl
@[simp] theorem resetEvent_busy (c : Config) (s : State) : (resetEvent c s).busy = false := rfl
@[simp] theorem resetEvent_txf (c : Config) (s : State) : (resetEvent c s).txf = none := rfl
@[simp] theorem resetEvent_bitPos (c : Config) (s : State) : (resetEvent c s).bitPos = 0 := rfl
@[simp] theorem resetEvent_bitCnt (c : Config) (s : State) : (resetEvent c s).bitCnt = 0 := rfl
@[simp] theorem resetEvent_period (c : Config) (s : State) : (resetEvent c s).period = 0 := rfl
@[simp] theorem resetEvent_queue (c : Config) (s : State) : (resetEvent c s).queue = [] := rfl
@[simp] theorem resetEvent_hist (c : Config) (s : State) : (resetEvent c s).hist = [] := rfl
@[simp] theorem resetEvent_histOvf (c : Config) (s : State) : (resetEvent c s).histOvf = false := rfl
@[simp] theorem resetEvent_bitTime (c : Config) (s : State) : (resetEvent c s).bitTime = c.bitTimeReset := rfl
@[simp] theorem resetEvent_histIndex (c : Config) (s : State) : (resetEvent c s).histIndex = 0 := rfl
@[simp] theorem resetEvent_time (c : Config) (s : State) : (resetEvent c s).time = 0 := rfl
@[simp] theorem resetEvent_timeHiLatch (c : Config) (s : State) : (resetEvent c s).timeHiLatch = 0 := rfl
@[simp] theorem resetEvent_rdata (c : Config) (s : State) : (resetEvent c s).rdata = 0 := rfl
@[simp] theorem resetEvent_inputs (c : Config) (s : State) : (resetEvent c s).inputs = s.inputs := rfl

/-! ### startCommand: every field but `RESULT` and `RUN_STATE` -/

@[simp] theorem startCommand_txId (s : State) : (startCommand s).txId = s.txId := by
  unfold startCommand; split <;> rfl
@[simp] theorem startCommand_txDlc (s : State) : (startCommand s).txDlc = s.txDlc := by
  unfold startCommand; split <;> rfl
@[simp] theorem startCommand_txExt (s : State) : (startCommand s).txExt = s.txExt := by
  unfold startCommand; split <;> rfl
@[simp] theorem startCommand_txData0 (s : State) : (startCommand s).txData0 = s.txData0 := by
  unfold startCommand; split <;> rfl
@[simp] theorem startCommand_txData1 (s : State) : (startCommand s).txData1 = s.txData1 := by
  unfold startCommand; split <;> rfl
@[simp] theorem startCommand_level (s : State) : (startCommand s).level = s.level := by
  unfold startCommand; split <;> rfl
@[simp] theorem startCommand_busy (s : State) : (startCommand s).busy = s.busy := by
  unfold startCommand; split <;> rfl
@[simp] theorem startCommand_txf (s : State) : (startCommand s).txf = s.txf := by
  unfold startCommand; split <;> rfl
@[simp] theorem startCommand_bitPos (s : State) : (startCommand s).bitPos = s.bitPos := by
  unfold startCommand; split <;> rfl
@[simp] theorem startCommand_bitCnt (s : State) : (startCommand s).bitCnt = s.bitCnt := by
  unfold startCommand; split <;> rfl
@[simp] theorem startCommand_period (s : State) : (startCommand s).period = s.period := by
  unfold startCommand; split <;> rfl
@[simp] theorem startCommand_queue (s : State) : (startCommand s).queue = s.queue := by
  unfold startCommand; split <;> rfl
@[simp] theorem startCommand_hist (s : State) : (startCommand s).hist = s.hist := by
  unfold startCommand; split <;> rfl
@[simp] theorem startCommand_histOvf (s : State) : (startCommand s).histOvf = s.histOvf := by
  unfold startCommand; split <;> rfl
@[simp] theorem startCommand_bitTime (s : State) : (startCommand s).bitTime = s.bitTime := by
  unfold startCommand; split <;> rfl
@[simp] theorem startCommand_histIndex (s : State) : (startCommand s).histIndex = s.histIndex := by
  unfold startCommand; split <;> rfl
@[simp] theorem startCommand_time (s : State) : (startCommand s).time = s.time := by
  unfold startCommand; split <;> rfl
@[simp] theorem startCommand_timeHiLatch (s : State) : (startCommand s).timeHiLatch = s.timeHiLatch := by
  unfold startCommand; split <;> rfl
@[simp] theorem startCommand_rdata (s : State) : (startCommand s).rdata = s.rdata := by
  unfold startCommand; split <;> rfl
@[simp] theorem startCommand_inputs (s : State) : (startCommand s).inputs = s.inputs := by
  unfold startCommand; split <;> rfl

/-! ### stopCommand: every field but `RESULT` and `RUN_STATE` -/

@[simp] theorem stopCommand_txId (s : State) : (stopCommand s).txId = s.txId := by
  unfold stopCommand; split <;> rfl
@[simp] theorem stopCommand_txDlc (s : State) : (stopCommand s).txDlc = s.txDlc := by
  unfold stopCommand; split <;> rfl
@[simp] theorem stopCommand_txExt (s : State) : (stopCommand s).txExt = s.txExt := by
  unfold stopCommand; split <;> rfl
@[simp] theorem stopCommand_txData0 (s : State) : (stopCommand s).txData0 = s.txData0 := by
  unfold stopCommand; split <;> rfl
@[simp] theorem stopCommand_txData1 (s : State) : (stopCommand s).txData1 = s.txData1 := by
  unfold stopCommand; split <;> rfl
@[simp] theorem stopCommand_level (s : State) : (stopCommand s).level = s.level := by
  unfold stopCommand; split <;> rfl
@[simp] theorem stopCommand_busy (s : State) : (stopCommand s).busy = s.busy := by
  unfold stopCommand; split <;> rfl
@[simp] theorem stopCommand_txf (s : State) : (stopCommand s).txf = s.txf := by
  unfold stopCommand; split <;> rfl
@[simp] theorem stopCommand_bitPos (s : State) : (stopCommand s).bitPos = s.bitPos := by
  unfold stopCommand; split <;> rfl
@[simp] theorem stopCommand_bitCnt (s : State) : (stopCommand s).bitCnt = s.bitCnt := by
  unfold stopCommand; split <;> rfl
@[simp] theorem stopCommand_period (s : State) : (stopCommand s).period = s.period := by
  unfold stopCommand; split <;> rfl
@[simp] theorem stopCommand_queue (s : State) : (stopCommand s).queue = s.queue := by
  unfold stopCommand; split <;> rfl
@[simp] theorem stopCommand_hist (s : State) : (stopCommand s).hist = s.hist := by
  unfold stopCommand; split <;> rfl
@[simp] theorem stopCommand_histOvf (s : State) : (stopCommand s).histOvf = s.histOvf := by
  unfold stopCommand; split <;> rfl
@[simp] theorem stopCommand_bitTime (s : State) : (stopCommand s).bitTime = s.bitTime := by
  unfold stopCommand; split <;> rfl
@[simp] theorem stopCommand_histIndex (s : State) : (stopCommand s).histIndex = s.histIndex := by
  unfold stopCommand; split <;> rfl
@[simp] theorem stopCommand_time (s : State) : (stopCommand s).time = s.time := by
  unfold stopCommand; split <;> rfl
@[simp] theorem stopCommand_timeHiLatch (s : State) : (stopCommand s).timeHiLatch = s.timeHiLatch := by
  unfold stopCommand; split <;> rfl
@[simp] theorem stopCommand_rdata (s : State) : (stopCommand s).rdata = s.rdata := by
  unfold stopCommand; split <;> rfl
@[simp] theorem stopCommand_inputs (s : State) : (stopCommand s).inputs = s.inputs := by
  unfold stopCommand; split <;> rfl

end Sys2Proof.Machine
end

