-- ==== Sys2Proof/Laws/Ops.lean ====
section
/-! SUPPORT. For each shared operation, one lemma that says everything it can do, and the frame of a host access. -/

/- One declaration at a time: elaborating many small theorems at once asks for more threads than a memory limit allows. -/
set_option Elab.async false

namespace Sys2Proof.Machine

/-- No fault exists (R126). -/
theorem fault_elim {P : Prop} (r : Fault) : P := nomatch r

@[simp] theorem andThen_next (s : State) (k : State → StepOutcome) : andThen (.next s) k = k s := rfl

@[simp] theorem andThen_refused (r : Refusal) (k : State → StepOutcome) : andThen (.refused r) k = .refused r := rfl

/-- Two parts of a step give a next state exactly when both do. -/
theorem andThen_eq_next {o : StepOutcome} {k : State → StepOutcome} {t : State} :
    andThen o k = .next t ↔ ∃ s, o = .next s ∧ k s = .next t := by
  cases o with
  | next s => simp
  | fault r => exact fault_elim r
  | refused r => simp

/-- What a command can do (R86 to R90). -/
theorem performCommand_cases (c : Config) (v : Word) (s : State) :
    performCommand c v s = s ∨ performCommand c v s = startCommand s ∨ performCommand c v s = stopCommand s ∨
      performCommand c v s = enqueueCommand c s ∨ performCommand c v s = reject .errBadCmd s := by
  unfold performCommand
  split <;> simp

/-- Everything a host access can do (R92, R93, R97). -/
theorem exec_cases {i : Instr} {s t : State} (h : exec i s = .next t) :
    t = s ∨ (∃ v, t = returnData v s) ∨ t = latchTimeHi (returnData (lowWord s.time) s) ∨
      (∃ v, t = writeTxId v s) ∨ (∃ v, t = writeTxFmt v s) ∨ (∃ v, t = writeTxData0 v s) ∨
      (∃ v, t = writeTxData1 v s) ∨ (∃ v, t = writeBitTime v s) ∨ (∃ v, t = writeHistIndex v s) ∨
      t = startCommand s ∨ t = stopCommand s ∨ t = enqueueCommand Config.params s ∨ t = reject .errBadCmd s := by
  cases i
  case rdSeq =>
    simp only [exec, execRdSeq] at h
    split at h
    · cases h; exact .inr (.inl ⟨_, rfl⟩)
    · cases h
  case wrCmd v =>
    simp only [exec, execWrCmd, Host.Outcome.next.injEq] at h
    subst h
    rcases performCommand_cases Config.params v s with h | h | h | h | h <;> rw [h] <;> simp
  all_goals
    cases h
    first
      | exact .inl rfl
      | exact .inr (.inl ⟨_, rfl⟩)
      | exact .inr (.inr (.inl rfl))
      | exact .inr (.inr (.inr (.inl ⟨_, rfl⟩)))
      | exact .inr (.inr (.inr (.inr (.inl ⟨_, rfl⟩))))
      | exact .inr (.inr (.inr (.inr (.inr (.inl ⟨_, rfl⟩)))))
      | exact .inr (.inr (.inr (.inr (.inr (.inr (.inl ⟨_, rfl⟩))))))
      | exact .inr (.inr (.inr (.inr (.inr (.inr (.inr (.inl ⟨_, rfl⟩)))))))
      | exact .inr (.inr (.inr (.inr (.inr (.inr (.inr (.inr (.inl ⟨_, rfl⟩))))))))
      | exact .inr (.inr (.inr (.inr (.inr (.inr (.inr (.inr (.inr (.inl rfl)))))))))
      | exact .inr (.inr (.inr (.inr (.inr (.inr (.inr (.inr (.inr (.inr (.inl rfl))))))))))
      | exact .inr (.inr (.inr (.inr (.inr (.inr (.inr (.inr (.inr (.inr (.inr (.inl rfl)))))))))))
      | exact .inr (.inr (.inr (.inr (.inr (.inr (.inr (.inr (.inr (.inr (.inr (.inr rfl)))))))))))

/-- Only a read of `SEQ` can be refused; every other host access completes (R46). -/
theorem exec_completes {i : Instr} {s : State} (h : i = .rdSeq → ∃ v, seqView s = .ok v) :
    ∃ t, exec i s = .next t := by
  cases i
  case rdSeq =>
    obtain ⟨v, hv⟩ := h rfl
    exact ⟨returnData v s, by simp only [exec, execRdSeq, hv]⟩
  all_goals exact ⟨_, rfl⟩

/-- Everything the sequencer step can do (R108). -/
theorem seqStep_cases {c : Config} {s t : State} (h : seqStep c s = .next t) :
    (s.busy = true ∧ 1 < s.bitCnt.toNat ∧ t = bitHold s) ∨
    (s.busy = true ∧ s.bitCnt.toNat ≤ 1 ∧ ∃ f bits b, s.txf = some f ∧ encodeFrame f = .ok bits ∧
      bits[s.bitPos.toNat + 1]? = some b ∧ t = bitAdvance b s) ∨
    (s.busy = true ∧ s.bitCnt.toNat ≤ 1 ∧ ∃ f bits, s.txf = some f ∧ encodeFrame f = .ok bits ∧
      bits.length ≤ s.bitPos.toNat + 1 ∧ t = complete c f s) ∨
    (s.busy = false ∧ s.runState = .stopping ∧ t = finishStop s) ∨
    (s.busy = false ∧ s.runState = .running ∧ ∃ f rest bits, s.queue = f :: rest ∧ encodeFrame f = .ok bits ∧
      t = dispatch f rest (bits.headD dominant) s) ∨
    (s.busy = false ∧ (s.runState = .stopped ∨ s.runState = .running ∧ s.queue = []) ∧ t = s) := by
  unfold seqStep at h
  cases hb : s.busy with
  | true =>
    simp only [hb, if_true, busyStep] at h
    split at h
    · next hc => cases h; exact .inl ⟨rfl, hc, rfl⟩
    · next hc =>
      have hc' : s.bitCnt.toNat ≤ 1 := by omega
      split at h
      · cases h
      · next f hf =>
        unfold bitBoundary at h
        split at h
        · cases h
        · next bits he =>
          split at h
          · next b hbit => cases h; exact .inr (.inl ⟨rfl, hc', f, bits, b, hf, he, hbit, rfl⟩)
          · next hbit =>
            cases h
            exact .inr (.inr (.inl ⟨rfl, hc', f, bits, hf, he, by simpa using hbit, rfl⟩))
  | false =>
    simp only [hb, Bool.false_eq_true, if_false, idleStep] at h
    split at h
    · next hr => cases h; exact .inr (.inr (.inr (.inl ⟨rfl, hr, rfl⟩)))
    · next hr => cases h; exact .inr (.inr (.inr (.inr (.inr ⟨rfl, .inl hr, rfl⟩))))
    · next hr =>
      split at h
      · next hq => cases h; exact .inr (.inr (.inr (.inr (.inr ⟨rfl, .inr ⟨hr, hq⟩, rfl⟩))))
      · next f rest hq =>
        split at h
        · cases h
        · next bits he =>
          cases h; exact .inr (.inr (.inr (.inr (.inl ⟨rfl, hr, f, rest, bits, hq, he, rfl⟩))))

/-- Everything a host access does to the sequencer's own state, the history, the time and the pins: nothing (R19's
"written by" column, R117). -/
theorem exec_frame {i : Instr} {s t : State} (h : exec i s = .next t) :
    t.level = s.level ∧ t.busy = s.busy ∧ t.txf = s.txf ∧ t.bitPos = s.bitPos ∧ t.bitCnt = s.bitCnt ∧
      t.period = s.period ∧ t.hist = s.hist ∧ t.histOvf = s.histOvf ∧ t.time = s.time ∧ t.inputs = s.inputs := by
  rcases exec_cases h with rfl | ⟨v, rfl⟩ | rfl | ⟨v, rfl⟩ | ⟨v, rfl⟩ | ⟨v, rfl⟩ | ⟨v, rfl⟩ | ⟨v, rfl⟩ | ⟨v, rfl⟩ |
    rfl | rfl | rfl | rfl <;> simp

/-- What a host access does to the queue: nothing, or ENQUEUE's append (R21, R89). -/
theorem exec_queue {i : Instr} {s t : State} (h : exec i s = .next t) :
    t.queue = s.queue ∨ (enqueueCode Config.params s = .ok ∧ t.queue = s.queue ++ [makeRecord s]) := by
  rcases exec_cases h with rfl | ⟨v, rfl⟩ | rfl | ⟨v, rfl⟩ | ⟨v, rfl⟩ | ⟨v, rfl⟩ | ⟨v, rfl⟩ | ⟨v, rfl⟩ | ⟨v, rfl⟩ |
    rfl | rfl | rfl | rfl <;> simp only [returnData_queue, latchTimeHi_queue, writeTxId_queue, writeTxFmt_queue,
    writeTxData0_queue, writeTxData1_queue, writeBitTime_queue, writeHistIndex_queue, startCommand_queue,
    stopCommand_queue, reject_queue, enqueueCommand_queue, true_or]
  by_cases hc : enqueueCode Config.params s = .ok <;> simp [hc]

/-- What a host access does to the run state (R87, R88): nothing, START from STOPPED, or STOP from RUNNING. -/
theorem exec_runState {i : Instr} {s t : State} (h : exec i s = .next t) :
    t.runState = s.runState ∨ (s.runState = .stopped ∧ t.runState = .running) ∨
      (s.runState = .running ∧ t.runState = .stopping) := by
  rcases exec_cases h with rfl | ⟨v, rfl⟩ | rfl | ⟨v, rfl⟩ | ⟨v, rfl⟩ | ⟨v, rfl⟩ | ⟨v, rfl⟩ | ⟨v, rfl⟩ | ⟨v, rfl⟩ |
    rfl | rfl | rfl | rfl
  case inr.inr.inr.inr.inr.inr.inr.inr.inr.inl => unfold startCommand; split <;> simp_all
  case inr.inr.inr.inr.inr.inr.inr.inr.inr.inr.inl => unfold stopCommand; split <;> simp_all
  all_goals simp

/-- One edge is the reset event, or a host access, the sequencer step and the increment of `TIME` (R107). -/
theorem step_cases {s t : State} (h : step s = .next t) :
    ((currentPins s).rst = true ∧ t = resetEvent Config.params (beginEdge s)) ∨
    ((currentPins s).rst = false ∧ ∃ s1 s2, hostAccess (currentPins s) (beginEdge s) = .next s1 ∧
      seqStep Config.params s1 = .next s2 ∧ t = tick s2) := by
  unfold step edge edgeWith at h
  cases hr : (currentPins s).rst with
  | true => simp only [hr, if_true] at h; cases h; exact .inl ⟨rfl, rfl⟩
  | false =>
    simp only [hr, Bool.false_eq_true, if_false, andThen_eq_next] at h
    obtain ⟨s1, h1, s2, h2, h3⟩ := h
    cases h3
    exact .inr ⟨rfl, s1, s2, h1, h2, rfl⟩

/-- The host access of an edge is a decoded instruction, or nothing (R46). -/
theorem hostAccess_cases {p : Pins} {s t : State} (h : hostAccess p s = .next t) :
    (p.req = true ∧ exec (decodeAccess p.access) s = .next t) ∨ (p.req = false ∧ t = s) := by
  unfold hostAccess at h
  cases hr : p.req with
  | true => simp only [hr, if_true] at h; exact .inl ⟨rfl, h⟩
  | false => simp only [hr, Bool.false_eq_true, if_false] at h; cases h; exact .inr ⟨rfl, rfl⟩

end Sys2Proof.Machine
end

