-- ==== Sys2Proof/Laws/PerInstr.lean ====
section
/-! SUPPORT. Statements made per instruction: an instruction's canonical word decodes to it (R66, R70). -/

/- One declaration at a time: elaborating many small theorems at once asks for more threads than a memory limit allows. -/
set_option Elab.async false

namespace Sys2Proof

/-- The host-port access of a key is the access the key was made of (R70). -/
theorem ofKey_key (we : Bit) (addr : Byte) (v : Word) :
    Access.ofKey (Access.key { we, addr, wdata := v }) v = { we, addr, wdata := v } := by
  have h1 : ∀ (w : Bit) (a : Byte), (Access.key { we := w, addr := a, wdata := 0 }).getLsbD 8 = w := by decide +revert
  have h2 : ∀ (w : Bit) (a : Byte), (Access.key { we := w, addr := a, wdata := 0 }).setWidth 8 = a := by decide +revert
  have e1 := h1 we addr
  have e2 := h2 we addr
  simp only [Access.key] at e1 e2
  simp only [Access.ofKey, Access.key, e1, e2]

theorem decode_readWord (off : Byte) : decode (readWord off) = decodeRead (wordOffset off) := by
  simp [decode, readWord, ofKey_key, decodeAccess]

theorem decode_writeWord (off : Byte) (v : Word) : decode (writeWord off v) = decodeWrite (wordOffset off) v := by
  simp [decode, writeWord, ofKey_key, decodeAccess]

/-- Where the offsets of the unmapped rows lie (R106). -/
theorem unmappedOffset_range :
    ∀ off : Byte,
      (unmappedOffset 0xF0 0x50 off = true → wordOffset off = off ∧ 0x50 ≤ off.toNat ∧ off.toNat < 0x60) ∧
      (unmappedOffset 0xE0 0x60 off = true → wordOffset off = off ∧ 0x60 ≤ off.toNat ∧ off.toNat < 0x80) ∧
      (unmappedOffset 0x80 0x80 off = true → wordOffset off = off ∧ 0x80 ≤ off.toNat) := by decide

/-- A read beyond the registers decodes to an unmapped row (R106). -/
theorem decodeRead_unmapped (off : Byte) (h : 0x50 ≤ off.toNat) :
    decodeRead off =
      if off.toNat < 0x60 then .rdUnmapped505F off
      else if off.toNat < 0x80 then .rdUnmapped607F off else .rdUnmapped80FF off := by
  unfold decodeRead
  split <;> first | rfl | (exfalso; omega)

/-- A write beyond the registers decodes to an unmapped row (R105). -/
theorem decodeWrite_unmapped (off : Byte) (v : Word) (h : 0x50 ≤ off.toNat) :
    decodeWrite off v =
      if off.toNat < 0x60 then .wrUnmapped505F off v
      else if off.toNat < 0x80 then .wrUnmapped607F off v else .wrUnmapped80FF off v := by
  unfold decodeWrite
  split <;> first | rfl | (exfalso; omega)

namespace Laws.EncodeRoundTrip

/-- A well-formed instruction's canonical word decodes to the instruction. -/
def Statement (i : Instr) : Prop := i.wellFormed = true → decode (encode i) = i

theorem nop : Statement .nop := fun _ => rfl

theorem start : Statement .start := fun _ => rfl

theorem stop : Statement .stop := fun _ => rfl

theorem enqueue : Statement .enqueue := fun _ => rfl

theorem reservedOp47 (op : BitVec 4) : Statement (.reservedOp47 op) := by
  revert op; unfold Statement; decide

theorem reservedOp8F (op : BitVec 4) : Statement (.reservedOp8F op) := by
  revert op; unfold Statement; decide

theorem rdTxId : Statement .rdTxId := fun _ => by rw [encode, decode_readWord]; rfl

theorem wrTxId (v : Word) : Statement (.wrTxId v) := fun _ => by rw [encode, decode_writeWord]; rfl

theorem rdTxFmt : Statement .rdTxFmt := fun _ => by rw [encode, decode_readWord]; rfl

theorem wrTxFmt (v : Word) : Statement (.wrTxFmt v) := fun _ => by rw [encode, decode_writeWord]; rfl

theorem rdTxData0 : Statement .rdTxData0 := fun _ => by rw [encode, decode_readWord]; rfl

theorem wrTxData0 (v : Word) : Statement (.wrTxData0 v) := fun _ => by rw [encode, decode_writeWord]; rfl

theorem rdTxData1 : Statement .rdTxData1 := fun _ => by rw [encode, decode_readWord]; rfl

theorem wrTxData1 (v : Word) : Statement (.wrTxData1 v) := fun _ => by rw [encode, decode_writeWord]; rfl

theorem rdCmd : Statement .rdCmd := fun _ => by rw [encode, decode_readWord]; rfl

theorem wrCmd (v : Word) : Statement (.wrCmd v) := fun _ => by rw [encode, decode_writeWord]; rfl

theorem rdResult : Statement .rdResult := fun _ => by rw [encode, decode_readWord]; rfl

theorem rdStatus : Statement .rdStatus := fun _ => by rw [encode, decode_readWord]; rfl

theorem rdBitTime : Statement .rdBitTime := fun _ => by rw [encode, decode_readWord]; rfl

theorem wrBitTime (v : Word) : Statement (.wrBitTime v) := fun _ => by rw [encode, decode_writeWord]; rfl

theorem rdQcount : Statement .rdQcount := fun _ => by rw [encode, decode_readWord]; rfl

theorem rdHistCount : Statement .rdHistCount := fun _ => by rw [encode, decode_readWord]; rfl

theorem rdHistIndex : Statement .rdHistIndex := fun _ => by rw [encode, decode_readWord]; rfl

theorem wrHistIndex (v : Word) : Statement (.wrHistIndex v) := fun _ => by rw [encode, decode_writeWord]; rfl

theorem rdHistId : Statement .rdHistId := fun _ => by rw [encode, decode_readWord]; rfl

theorem rdHistFmt : Statement .rdHistFmt := fun _ => by rw [encode, decode_readWord]; rfl

theorem rdHistData0 : Statement .rdHistData0 := fun _ => by rw [encode, decode_readWord]; rfl

theorem rdHistData1 : Statement .rdHistData1 := fun _ => by rw [encode, decode_readWord]; rfl

theorem rdHistTsLo : Statement .rdHistTsLo := fun _ => by rw [encode, decode_readWord]; rfl

theorem rdHistTsHi : Statement .rdHistTsHi := fun _ => by rw [encode, decode_readWord]; rfl

theorem rdTimeLo : Statement .rdTimeLo := fun _ => by rw [encode, decode_readWord]; rfl

theorem rdTimeHi : Statement .rdTimeHi := fun _ => by rw [encode, decode_readWord]; rfl

theorem rdSeq : Statement .rdSeq := fun _ => by rw [encode, decode_readWord]; rfl

theorem wrResultIgnored (v : Word) : Statement (.wrResultIgnored v) := fun _ => by rw [encode, decode_writeWord]; rfl

theorem wrStatusIgnored (v : Word) : Statement (.wrStatusIgnored v) := fun _ => by rw [encode, decode_writeWord]; rfl

theorem wrQcountIgnored (v : Word) : Statement (.wrQcountIgnored v) := fun _ => by rw [encode, decode_writeWord]; rfl

theorem wrHistCountIgnored (v : Word) : Statement (.wrHistCountIgnored v) := fun _ => by rw [encode, decode_writeWord]; rfl

theorem wrHistIdIgnored (v : Word) : Statement (.wrHistIdIgnored v) := fun _ => by rw [encode, decode_writeWord]; rfl

theorem wrHistFmtIgnored (v : Word) : Statement (.wrHistFmtIgnored v) := fun _ => by rw [encode, decode_writeWord]; rfl

theorem wrHistData0Ignored (v : Word) : Statement (.wrHistData0Ignored v) := fun _ => by rw [encode, decode_writeWord]; rfl

theorem wrHistData1Ignored (v : Word) : Statement (.wrHistData1Ignored v) := fun _ => by rw [encode, decode_writeWord]; rfl

theorem wrHistTsLoIgnored (v : Word) : Statement (.wrHistTsLoIgnored v) := fun _ => by rw [encode, decode_writeWord]; rfl

theorem wrHistTsHiIgnored (v : Word) : Statement (.wrHistTsHiIgnored v) := fun _ => by rw [encode, decode_writeWord]; rfl

theorem wrTimeLoIgnored (v : Word) : Statement (.wrTimeLoIgnored v) := fun _ => by rw [encode, decode_writeWord]; rfl

theorem wrTimeHiIgnored (v : Word) : Statement (.wrTimeHiIgnored v) := fun _ => by rw [encode, decode_writeWord]; rfl

theorem wrSeqIgnored (v : Word) : Statement (.wrSeqIgnored v) := fun _ => by rw [encode, decode_writeWord]; rfl

theorem rdUnmapped505F (off : Byte) : Statement (.rdUnmapped505F off) := fun h => by
  obtain ⟨e, h1⟩ := (unmappedOffset_range off).1 h
  rw [encode, decode_readWord, e, decodeRead_unmapped off (by omega)]
  split_ifs <;> first | rfl | (exfalso; omega)

theorem wrUnmapped505F (off : Byte) (v : Word) : Statement (.wrUnmapped505F off v) := fun h => by
  obtain ⟨e, h1⟩ := (unmappedOffset_range off).1 h
  rw [encode, decode_writeWord, e, decodeWrite_unmapped off v (by omega)]
  split_ifs <;> first | rfl | (exfalso; omega)

theorem rdUnmapped607F (off : Byte) : Statement (.rdUnmapped607F off) := fun h => by
  obtain ⟨e, h1⟩ := (unmappedOffset_range off).2.1 h
  rw [encode, decode_readWord, e, decodeRead_unmapped off (by omega)]
  split_ifs <;> first | rfl | (exfalso; omega)

theorem wrUnmapped607F (off : Byte) (v : Word) : Statement (.wrUnmapped607F off v) := fun h => by
  obtain ⟨e, h1⟩ := (unmappedOffset_range off).2.1 h
  rw [encode, decode_writeWord, e, decodeWrite_unmapped off v (by omega)]
  split_ifs <;> first | rfl | (exfalso; omega)

theorem rdUnmapped80FF (off : Byte) : Statement (.rdUnmapped80FF off) := fun h => by
  obtain ⟨e, h1⟩ := (unmappedOffset_range off).2.2 h
  rw [encode, decode_readWord, e, decodeRead_unmapped off (by omega)]
  split_ifs <;> first | rfl | (exfalso; omega)

theorem wrUnmapped80FF (off : Byte) (v : Word) : Statement (.wrUnmapped80FF off v) := fun h => by
  obtain ⟨e, h1⟩ := (unmappedOffset_range off).2.2 h
  rw [encode, decode_writeWord, e, decodeWrite_unmapped off v (by omega)]
  split_ifs <;> first | rfl | (exfalso; omega)

end Laws.EncodeRoundTrip

end Sys2Proof
end

