-- ==== Sys2Proof/Tests/Slice0.lean ====
section
/-! SUPPORT. Tests whose expected values come from the spec's tables, examples and vectors (files 10, 30, 40, 41, 42, 43,
60, 70, 95), and for every statement that has hypotheses a state and operands that meet them. -/

/- One declaration at a time: elaborating many small theorems at once asks for more threads than a memory limit allows. -/
set_option Elab.async false

namespace Sys2Proof.Tests

open Sys2Proof.Machine

/-! ### Well-formedness: an ill-formed term for each check, refused (R67, R70 masks) -/

/-- R67: opcodes 0x3 and 0x8 are outside 0x4 to 0x7. -/
theorem test_wellFormed_reservedOp47 :
    (Instr.reservedOp47 0x3).wellFormed = false ∧ (Instr.reservedOp47 0x8).wellFormed = false ∧
    (Instr.reservedOp47 0x4).wellFormed = true ∧ (Instr.reservedOp47 0x7).wellFormed = true := by decide

/-- R67: opcode 0x7 is outside 0x8 to 0xF. -/
theorem test_wellFormed_reservedOp8F :
    (Instr.reservedOp8F 0x7).wellFormed = false ∧ (Instr.reservedOp8F 0x8).wellFormed = true ∧
    (Instr.reservedOp8F 0xF).wellFormed = true := by decide

/-- The row 0x50 to 0x5F: offsets below it, above it, and unaligned ones (R49) are refused. -/
theorem test_wellFormed_unmapped505F :
    (Instr.rdUnmapped505F 0x4C).wellFormed = false ∧ (Instr.rdUnmapped505F 0x60).wellFormed = false ∧
    (Instr.rdUnmapped505F 0x51).wellFormed = false ∧ (Instr.rdUnmapped505F 0x5C).wellFormed = true ∧
    (Instr.wrUnmapped505F 0x4C 1).wellFormed = false ∧ (Instr.wrUnmapped505F 0x60 1).wellFormed = false ∧
    (Instr.wrUnmapped505F 0x52 1).wellFormed = false ∧ (Instr.wrUnmapped505F 0x50 1).wellFormed = true := by decide

/-- The row 0x60 to 0x7F. -/
theorem test_wellFormed_unmapped607F :
    (Instr.rdUnmapped607F 0x5C).wellFormed = false ∧ (Instr.rdUnmapped607F 0x80).wellFormed = false ∧
    (Instr.rdUnmapped607F 0x61).wellFormed = false ∧ (Instr.rdUnmapped607F 0x7C).wellFormed = true ∧
    (Instr.wrUnmapped607F 0x5C 1).wellFormed = false ∧ (Instr.wrUnmapped607F 0x80 1).wellFormed = false ∧
    (Instr.wrUnmapped607F 0x63 1).wellFormed = false ∧ (Instr.wrUnmapped607F 0x60 1).wellFormed = true := by decide

/-- The row 0x80 to 0xFF. -/
theorem test_wellFormed_unmapped80FF :
    (Instr.rdUnmapped80FF 0x7C).wellFormed = false ∧ (Instr.rdUnmapped80FF 0x81).wellFormed = false ∧
    (Instr.rdUnmapped80FF 0xFC).wellFormed = true ∧ (Instr.wrUnmapped80FF 0x7C 1).wellFormed = false ∧
    (Instr.wrUnmapped80FF 0xFE 1).wellFormed = false ∧ (Instr.wrUnmapped80FF 0x80 1).wellFormed = true := by decide

/-! ### Decoding: every row's word, written out from R67 and R70 -/

/-- A read's word in the table's numbering: the key alone. -/
def readKey (key : Nat) : Option Instr := decodeTableWord 16 key

/-- A write's word: the key in bits [8:0], the `wdata` 0x01020304 in bits [47:16]. -/
def writeKey (key : Nat) : Option Instr := decodeTableWord 48 (0x01020304 * 0x10000 + key)

/-- R67: the opcode map, `OP` in bits [3:0]. -/
theorem test_decode_commands :
    [0b0000, 0b0001, 0b0010, 0b0011, 0b0100, 0b0101, 0b0110, 0b0111].map (decodeTableWord 8) =
      [some .nop, some .start, some .stop, some .enqueue, some (.reservedOp47 4), some (.reservedOp47 5),
        some (.reservedOp47 6), some (.reservedOp47 7)] ∧
    [0b1000, 0b1001, 0b1010, 0b1011, 0b1100, 0b1101, 0b1110, 0b1111].map (decodeTableWord 8) =
      [some (.reservedOp8F 8), some (.reservedOp8F 9), some (.reservedOp8F 10), some (.reservedOp8F 11),
        some (.reservedOp8F 12), some (.reservedOp8F 13), some (.reservedOp8F 14), some (.reservedOp8F 15)] := by decide

/-- R66, R97: bits [31:4] are ignored; 0xFFFFFFF3 is an ENQUEUE. -/
theorem test_decode_command_high_bits :
    decodeTableWord 32 0xFFFFFFF3 = some .enqueue ∧ decodeTableWord 32 0x12345670 = some .nop := by decide

/-- R70 with R30: the keys of the read rows, `we` first, then `addr[7:0]`. -/
theorem test_decode_reads_low :
    [0b0_0000_0000, 0b0_0000_0100, 0b0_0000_1000, 0b0_0000_1100, 0b0_0001_0000, 0b0_0001_0100,
     0b0_0001_1000, 0b0_0001_1100, 0b0_0010_0000, 0b0_0010_0100, 0b0_0010_1000, 0b0_0010_1100].map readKey =
    [some .rdTxId, some .rdTxFmt, some .rdTxData0,
     some .rdTxData1, some .rdCmd, some .rdResult,
     some .rdStatus, some .rdBitTime, some .rdQcount,
     some .rdHistCount, some .rdHistIndex, some .rdHistId] := by decide

/-- R70 with R30, R106: the keys of the read rows, continued. -/
theorem test_decode_reads_high :
    [0b0_0011_0000, 0b0_0011_0100, 0b0_0011_1000, 0b0_0011_1100, 0b0_0100_0000, 0b0_0100_0100,
     0b0_0100_1000, 0b0_0100_1100, 0b0_0101_0000, 0b0_0110_0000, 0b0_1000_0000].map readKey =
    [some .rdHistFmt, some .rdHistData0, some .rdHistData1,
     some .rdHistTsLo, some .rdHistTsHi, some .rdTimeLo,
     some .rdTimeHi, some .rdSeq, some (.rdUnmapped505F 0x50),
     some (.rdUnmapped607F 0x60), some (.rdUnmapped80FF 0x80)] := by decide

/-- R70 with R30: the keys of the write rows, with `wdata` 0x01020304 beside them. -/
theorem test_decode_writes_low :
    [0b1_0000_0000, 0b1_0000_0100, 0b1_0000_1000, 0b1_0000_1100, 0b1_0001_0000, 0b1_0001_1100,
     0b1_0010_1000, 0b1_0001_0100, 0b1_0001_1000, 0b1_0010_0000, 0b1_0010_0100, 0b1_0010_1100].map writeKey =
    [some (.wrTxId 0x01020304), some (.wrTxFmt 0x01020304), some (.wrTxData0 0x01020304),
     some (.wrTxData1 0x01020304), some (.wrCmd 0x01020304), some (.wrBitTime 0x01020304),
     some (.wrHistIndex 0x01020304), some (.wrResultIgnored 0x01020304), some (.wrStatusIgnored 0x01020304),
     some (.wrQcountIgnored 0x01020304), some (.wrHistCountIgnored 0x01020304), some (.wrHistIdIgnored 0x01020304)] := by decide

/-- R70 with R30, R105: the keys of the write rows, continued. -/
theorem test_decode_writes_high :
    [0b1_0011_0000, 0b1_0011_0100, 0b1_0011_1000, 0b1_0011_1100, 0b1_0100_0000, 0b1_0100_0100,
     0b1_0100_1000, 0b1_0100_1100, 0b1_0101_0000, 0b1_0110_0000, 0b1_1000_0000].map writeKey =
    [some (.wrHistFmtIgnored 0x01020304), some (.wrHistData0Ignored 0x01020304), some (.wrHistData1Ignored 0x01020304),
     some (.wrHistTsLoIgnored 0x01020304), some (.wrHistTsHiIgnored 0x01020304), some (.wrTimeLoIgnored 0x01020304),
     some (.wrTimeHiIgnored 0x01020304), some (.wrSeqIgnored 0x01020304), some (.wrUnmapped505F 0x50 0x01020304),
     some (.wrUnmapped607F 0x60 0x01020304), some (.wrUnmapped80FF 0x80 0x01020304)] := by decide
/-- R49 and vectors HA12, HA13: `addr[1:0]` are ignored. -/
theorem test_decode_ignores_low_address_bits :
    decodeAccess { we := false, addr := 0x07, wdata := 0 } = .rdTxFmt ∧
    decodeAccess { we := true, addr := 0x0B, wdata := 0xA5A5A5A5 } = .wrTxData0 0xA5A5A5A5 ∧
    decodeAccess { we := false, addr := 0xFF, wdata := 0 } = .rdUnmapped80FF 0xFC := by decide

/-- What is no word of either format is rejected by name. -/
theorem test_decode_rejects_by_name :
    decodeBits 0 0 = .error .noSuchLength ∧ decodeBits 49 0 = .error .noSuchLength ∧
    decodeBits 8 0x100 = .error .strayBits ∧ decodeBits 16 0x200 = .error .strayBits := by decide

/-! ### The frame encoder: the vectors of file 95, L2.1 -/

/-- A frame of the vectors; `ts` is not on the wire. -/
def frame (ext : Bit) (id : BitVec 29) (dlc : BitVec 4) (payload : Vector Byte 8) : FrameRecord :=
  { id, ext, dlc, payload, ts := 0 }

/-- Eight zero bytes. -/
abbrev zeros : Vector Byte 8 := #v[0, 0, 0, 0, 0, 0, 0, 0]

/-- V1: the shortest frame. -/
abbrev v1 : FrameRecord := frame false 0x000 0 zeros

/-- V3. -/
abbrev v3 : FrameRecord := frame false 0x123 4 #v[0xDE, 0xAD, 0xBE, 0xEF, 0, 0, 0, 0]

/-- V11: the longest frame. -/
abbrev v11 : FrameRecord := frame true 0x1ABCDE01 8 #v[0x01, 0x23, 0x45, 0x67, 0x89, 0xAB, 0xCD, 0xEF]

/-- An identifier wider than a standard frame's: not valid (R17). -/
abbrev tooWide : FrameRecord := frame false 0x800 0 zeros

theorem test_encode_V1 : encodeFrame v1 =
    .ok (msbFirst 0b0_00000000000_000_0000_111111111111111_111_1111111#44 44) := by decide

theorem test_encode_V3 : encodeFrame v3 = .ok (msbFirst
    0b0_00100100011_000_0100_11011110101011011011111011101111_111111111111111_111_1111111#76 76) := by decide

theorem test_encode_V4 : encodeFrame (frame false 0x555 1 #v[0xA5, 0, 0, 0, 0, 0, 0, 0]) = .ok (msbFirst
    0b0_10101010101_000_0001_10100101_111111111111111_111_1111111#52 52) := by decide

theorem test_encode_V5 : encodeFrame (frame false 0x001 8 #v[0, 1, 2, 3, 4, 5, 6, 7]) = .ok (msbFirst
    0b0_00000000001_000_1000_0000000000000001000000100000001100000100000001010000011000000111_111111111111111_111_1111111#108
    108) := by decide

theorem test_encode_V7 : encodeFrame (frame true 0x800 0 zeros) = .ok (msbFirst
    0b0_00000000000000000100000000000_11_0000_111111111111111_111_1111111#61 61) := by decide

set_option maxRecDepth 2000 in
theorem test_encode_V11 : encodeFrame v11 = .ok (msbFirst
    0b0_11010101111001101111000000001_11_1000_0000000100100011010001010110011110001001101010111100110111101111_111111111111111_111_1111111#125
    125) := by decide

theorem test_encode_V12 : encodeFrame (frame true 0x18DAF110 3 #v[0x02, 0x10, 0x03, 0, 0, 0, 0, 0]) = .ok (msbFirst
    0b0_11000110110101111000100010000_11_0011_000000100001000000000011_111111111111111_111_1111111#85 85) := by decide

theorem test_encode_V13 : encodeFrame (frame true 0x7FF 0 zeros) = .ok (msbFirst
    0b0_00000000000000000011111111111_11_0000_111111111111111_111_1111111#61 61) := by decide

/-- R84: no meaning on an invalid record. -/
theorem test_encode_refuses_invalid :
    encodeFrame tooWide = .error .invalidRecord ∧ encodeFrame (frame true 0 9 zeros) = .error .invalidRecord := by decide

/-! ### Host accesses, one at a time -/

/-- The outcome is a next state of which `p` holds. -/
def next? (o : StepOutcome) (p : State → Bool) : Bool :=
  match o with
  | .next t => p t
  | _ => false

/-- What a read returns in a state. -/
def returns (i : Instr) (s : State) (v : Word) : Bool := next? (exec i s) fun t => t.rdata == v

/-- The staging registers hold a given frame (R31 to R33). -/
def staged (id : Word) (fmt : Word) (d0 d1 : Word) : State :=
  writeTxData1 d1 (writeTxData0 d0 (writeTxFmt fmt (writeTxId id State.reset)))

/-- A configuration with room for one frame in each store (CM12, P4). -/
def oneFrame : Config :=
  { Config.params with queueDepth := .bounded 1 (by decide) (by decide), histDepth := .bounded 1 (by decide) (by decide) }

/-- CM1: NOP keeps `RESULT`. -/
theorem test_nop : next? (exec .nop { State.reset with result := .errExtRange }) fun t => t.result == .errExtRange := by
  decide

/-- CM2: START from reset. -/
theorem test_start : next? (exec .start State.reset) fun t => statusView t == 0x00000003 && resultView t == 0 := by decide

/-- CM4: START while STOPPING is refused. -/
theorem test_start_busy : next? (exec .start { State.reset with runState := .stopping }) fun t =>
    resultView t == 5 && t.runState == .stopping := by decide

/-- CM6: STOP while RUNNING. -/
theorem test_stop : next? (exec .stop { State.reset with runState := .running, result := .errBusy }) fun t =>
    t.runState == .stopping && resultView t == 0 := by decide

/-- CM7: STOP while STOPPED. -/
theorem test_stop_stopped : next? (exec .stop State.reset) fun t => t.runState == .stopped && t.result == .ok := by decide

/-- RA1: the record that ENQUEUE appends, bytes at index `dlc` and above 0. -/
theorem test_enqueue_record :
    makeRecord { staged 0x55A 0x002 0x44332211 0x88776655 with time := 4 } =
      { id := 0x55A, ext := false, dlc := 2, payload := #v[0x11, 0x22, 0, 0, 0, 0, 0, 0], ts := 4 } := by decide

/-- RA6, CM8, CM9, CM10, CM11: the code of a refused ENQUEUE, and the queue untouched. -/
theorem test_enqueue_refused :
    [staged 0x800 0x00F 0 0, staged 0x800 0x000 0 0, staged 0x100 0x009 0 0, staged 0x900 0x10A 0 0,
      staged 0x20000000 0x100 0 0].map (fun s => next? (exec .enqueue s) fun t =>
        resultView t == (if s.txDlc == 0 then (if s.txExt then 3 else 2) else 1) && t.queue == []) =
      [true, true, true, true, true] := by decide

/-- CM16, CM17: reserved opcodes. -/
theorem test_reserved_low : next? (exec (.reservedOp47 0x7) State.reset) fun t => resultView t == 6 := by decide

theorem test_reserved_high : next? (exec (.reservedOp8F 0xF) State.reset) fun t => resultView t == 6 := by decide

/-- CM18: `WR CMD, 0xFFFFFFF3` is an ENQUEUE; RA5's frame is accepted. -/
theorem test_wrCmd :
    (performCommand oneFrame 0xFFFFFFF3 (staged 0x7FF 0x008 0 0)).queue = [frame false 0x7FF 8 zeros] ∧
    (performCommand oneFrame 0xFFFFFFF3 (staged 0x7FF 0x008 0 0)).result = .ok ∧
    next? (exec (.wrCmd 0xFFFFFFF3) (staged 0x7FF 0x009 0 0)) (fun t => t.result == .errDlc) := by decide

/-- HA10, HA11: reserved bits of `TX_FMT` are dropped. -/
theorem test_txFmt : returns .rdTxFmt (writeTxFmt 0xFFFFFFFF State.reset) 0x0000010F := by decide

/-- R95's example: 0x109 gives `EXT = 1`, `DLC = 9`. -/
theorem test_wrTxFmt : next? (exec (.wrTxFmt 0x00000109) State.reset) fun t => t.txExt == true && t.txDlc == 9 := by decide

/-- R94's example, and each staging register separately. -/
theorem test_staging_reads :
    returns .rdTxId (staged 1 2 3 4) 1 ∧ returns .rdTxFmt (staged 1 2 3 4) 2 ∧ returns .rdTxData0 (staged 1 2 3 4) 3 ∧
    returns .rdTxData1 (staged 1 2 3 4) 4 := by decide

/-- Each staging write goes to its own register. -/
theorem test_staging_writes :
    next? (exec (.wrTxId 7) State.reset) (fun t => t.txId == 7 && t.txData0 == 0 && t.txData1 == 0) ∧
    next? (exec (.wrTxData0 7) State.reset) (fun t => t.txId == 0 && t.txData0 == 7 && t.txData1 == 0) ∧
    next? (exec (.wrTxData1 7) State.reset) (fun t => t.txId == 0 && t.txData0 == 0 && t.txData1 == 7) := by decide

/-- HA19, HA9: `CMD` and unmapped offsets read 0, whatever `rdata` was. -/
theorem test_zero_reads :
    returns .rdCmd { State.reset with rdata := 5 } 0 ∧ returns (.rdUnmapped505F 0x50) { State.reset with rdata := 5 } 0 ∧
    returns (.rdUnmapped607F 0x60) { State.reset with rdata := 5 } 0 ∧
    returns (.rdUnmapped80FF 0x80) { State.reset with rdata := 5 } 0 := by decide

/-- V3 in flight at bit `pos`, with `cnt` edges of its period of 2 to go (program P1). -/
def sending (pos : BitVec 7) (cnt : Word) (level : Bit) : State :=
  { State.reset with runState := .running, busy := true, txf := some v3, bitPos := pos, bitCnt := cnt, period := 2, level }

/-- R98's example: the start-of-frame bit with `RUN_STATE = RUNNING`. -/
theorem test_status : returns .rdStatus (sending 0 2 dominant) 0x0000000A := by decide

/-- P1 edge 157 and P4 edge 200: the other fields of `STATUS`. -/
theorem test_status_fields :
    returns .rdStatus (sending 75 1 recessive) 0x0000000B ∧
    returns .rdStatus { State.reset with runState := .running, histOvf := true } 0x00000013 := by decide

/-- R68's numbers, read at `RESULT`. -/
theorem test_result :
    [ResultCode.ok, .errDlc, .errStdRange, .errExtRange, .errQFull, .errBusy, .errBadCmd].map
      (fun c => resultView { State.reset with result := c }) = [0, 1, 2, 3, 4, 5, 6] := by decide

theorem test_rdResult : returns .rdResult { State.reset with result := .errExtRange } 3 := by decide

/-- `BIT_TIME` and `HIST_INDEX` store every value (HA22, HA23). -/
theorem test_bitTime_histIndex :
    returns .rdBitTime (writeBitTime 9 State.reset) 9 ∧ returns .rdHistIndex (writeHistIndex 0xFFFFFFFF State.reset) 0xFFFFFFFF ∧
    next? (exec (.wrBitTime 2) State.reset) (fun t => t.bitTime == 2) ∧
    next? (exec (.wrHistIndex 5) State.reset) (fun t => t.histIndex == 5) := by decide

/-- R100's example: three frames queued, none in the history. -/
theorem test_counts :
    returns .rdQcount { State.reset with queue := [v1, v3, v11] } 3 ∧
    returns .rdHistCount { State.reset with queue := [v1, v3, v11] } 0 ∧
    returns .rdHistCount { State.reset with hist := [v3] } 1 := by decide

/-- The history of R102's example. -/
def recorded : State := { State.reset with hist := [{ v3 with ts := 0x700000005 }] }

/-- R102's example, with a time stamp that fills both words. -/
theorem test_history_views :
    returns .rdHistId recorded 0x00000123 ∧ returns .rdHistFmt recorded 0x80000004 ∧
    returns .rdHistData0 recorded 0xEFBEADDE ∧ returns .rdHistData1 recorded 0 ∧
    returns .rdHistTsLo recorded 5 ∧ returns .rdHistTsHi recorded 7 := by decide

/-- P4 edges 204, 205: an index past the end reads 0 and `VALID = 0`; and `DATA1` holds bytes 4 to 7 (V11). -/
theorem test_history_views_edges :
    returns .rdHistFmt (writeHistIndex 1 recorded) 0 ∧ returns .rdHistId (writeHistIndex 1 recorded) 0 ∧
    returns .rdHistData1 { State.reset with hist := [v11] } 0xEFCDAB89 ∧
    returns .rdHistFmt { State.reset with hist := [v11] } 0x80000108 := by decide

/-- R103's example: `TIME = 0x1FFFFFFFE`. -/
theorem test_time_lo : next? (exec .rdTimeLo { State.reset with time := 0x1FFFFFFFE }) fun t =>
    t.rdata == 0xFFFFFFFE && t.timeHiLatch == 1 := by decide

theorem test_time_hi : returns .rdTimeHi { State.reset with time := 0x1FFFFFFFE, timeHiLatch := 1 } 1 ∧
    returns .rdTimeHi { State.reset with time := 0x1FFFFFFFE } 0 := by decide

/-- R104's example: a 76-bit frame at bits 0 and 1; and 0 when idle. -/
theorem test_seq :
    returns .rdSeq (sending 0 1 dominant) 0x00004C00 ∧ returns .rdSeq (sending 1 2 dominant) 0x00004C01 ∧
    returns .rdSeq State.reset 0 := by decide

/-- HA15, HA17, HA20, HA24: writes of read-only registers and of unmapped offsets change none of what a host reads. -/
theorem test_ignored_writes :
    [Instr.wrResultIgnored 3, .wrStatusIgnored 0, .wrQcountIgnored 1, .wrHistCountIgnored 1, .wrHistIdIgnored 1,
      .wrHistFmtIgnored 1, .wrHistData0Ignored 1, .wrHistData1Ignored 1, .wrHistTsLoIgnored 1, .wrHistTsHiIgnored 1,
      .wrTimeLoIgnored 5, .wrTimeHiIgnored 1, .wrSeqIgnored 1, .wrUnmapped505F 0x50 1, .wrUnmapped607F 0x60 1,
      .wrUnmapped80FF 0x80 1].all (fun i => next? (exec i { recorded with time := 0x1FFFFFFFE }) fun t =>
        resultView t == 0 && statusView t == 1 && t.hist == recorded.hist && t.queue == [] && t.time == 0x1FFFFFFFE &&
          t.timeHiLatch == 0 && t.txId == 0) = true := by decide

/-! ### Edges -/

/-- The state after reset with given pins to come. -/
def facing (p : Pins) (s : State) : State := { s with inputs := [p] }

/-- A write of `CMD`. -/
def commandPins (op : Word) : Pins := { rst := false, req := true, we := true, addr := 0x10, wdata := op }

/-- A write of `BIT_TIME`. -/
def bitTimePins (v : Word) : Pins := { rst := false, req := true, we := true, addr := 0x1C, wdata := v }

/-- A reset edge with a write of `TX_ID` presented (ER3). -/
def resetPins : Pins := { rst := true, req := true, we := true, addr := 0x00, wdata := 0x123 }

/-- CM14 (steps (2) and (3) of the edge): ENQUEUE while RUNNING and idle dispatches at the same edge; the record's `ts` is the `TIME` before it. -/
theorem test_edge_enqueue :
    next? (seqStep oneFrame (enqueueCommand oneFrame
        { staged 0x123 0x004 0xEFBEADDE 0 with runState := .running, time := 5 })) fun t =>
      t.busy && t.queue == [] && !t.level && t.txf == some { v3 with ts := 5 } && t.result == .ok := by decide

/-- CM5: STOP while RUNNING and idle: STOPPED at the same edge. -/
theorem test_edge_stop : next? (step (facing (commandPins 2) { State.reset with runState := .running })) fun t =>
    statusView t == 0x00000001 && t.result == .ok := by decide

/-- CM19 and SQ2: START with a queued frame dispatches it, `PERIOD` from `BIT_TIME`. -/
theorem test_edge_start : next? (step (facing (commandPins 1) { State.reset with queue := [v1, v3], bitTime := 0 })) fun t =>
    t.busy && t.txf == some v1 && t.queue == [v3] && t.period == 1 && t.bitCnt == 1 := by decide

/-- SQ1: bit hold, with the counts 2 and 1. -/
theorem test_edge_hold : next? (step (sending 0 2 dominant)) fun t =>
    t.bitCnt == 1 && t.bitPos == 0 && !t.level && t.rdata == 0 := by decide

/-- R114's example: V3 from bit 11 (`id[0] = 1`) to bit 12 (format-control, 0). -/
theorem test_edge_advance : next? (step (sending 11 1 recessive)) fun t =>
    t.bitPos == 12 && !t.level && t.bitCnt == 2 && t.busy := by decide

/-- ER3 and R140's example: at a reset edge the write is discarded and everything is at its reset value. -/
theorem test_edge_reset : next? (step (facing resetPins (sending 11 1 recessive))) fun t =>
    t.txId == 0 && statusView t == 1 && t.time == 0 && t.rdata == 0 && t.txf == none && t.queue == [] := by decide

/-- CM12, CM13: a full queue, and ERR_DLC before ERR_QFULL. -/
theorem test_enqueue_full :
    (enqueueCommand oneFrame { State.reset with queue := [v1] }).result = .errQFull ∧
    (enqueueCommand oneFrame { State.reset with queue := [v1], txDlc := 9 }).result = .errDlc := by decide

/-- P4: completion with room in the history, and the discard without. -/
theorem test_completion :
    next? (seqStep oneFrame (sending 75 1 recessive)) (fun t => t.hist == [v3] && !t.histOvf && !t.busy && t.level) ∧
    next? (seqStep oneFrame { sending 75 1 recessive with hist := [v1] })
      (fun t => t.hist == [v1] && t.histOvf && !t.busy && t.txf == none) := by decide

/-- A word of each format presented from reset runs (R46): START, and a read of `STATUS`. -/
theorem test_withFetchWord :
    next? (step (State.reset.withFetchWord 8 0x1)) (fun t => statusView t == 0x00000003) ∧
    next? (step (State.reset.withFetchWord 16 0x018)) (fun t => t.rdata == 0x00000001 && t.time == 1) := by decide

/-! ### Witnesses: for each statement that has hypotheses, a state and operands that meet them -/

/-- Where only the outcome's being a next state matters. -/
def isNext (o : StepOutcome) : Bool := next? o fun _ => true

theorem exists_next {o : StepOutcome} (h : isNext o = true) : ∃ t, o = .next t := by
  cases o with
  | next t => exact ⟨t, rfl⟩
  | fault r => exact fault_elim r
  | refused r => cases h

/-- One frame fits every store (R7: a depth is at least 1). -/
theorem fitsDepth_one (d : Depth) {n : Nat} (h : n ≤ 1) : fitsDepth d n := by
  cases d with
  | unbounded => trivial
  | bounded k pos _ => exact h.trans pos

/-- A valid frame is accepted into an empty queue, whatever `QUEUE_DEPTH` is. -/
theorem enqueueCode_staged : enqueueCode Config.params State.reset = .ok := by
  have h : queueFull Config.params.queueDepth 0 = false := by
    cases Config.params.queueDepth with
    | unbounded => rfl
    | bounded k pos _ => simp [queueFull]; omega
  simp [enqueueCode, State.reset, h]

/-- A state with V3 in flight is good when its position is. -/
theorem sending_good {pos : BitVec 7} {cnt : Word} {level : Bit} (h1 : (frameBits v3)[pos.toNat]? = some level)
    (h2 : 1 ≤ cnt.toNat) (h3 : cnt.toNat ≤ 2) (rs : RunState) (hrs : rs = .running ∨ rs = .stopping)
    (q : List FrameRecord) (hq : q.length ≤ 1) (hv : ∀ f ∈ q, f.WellMade) (pins : List Pins) :
    State.Good Config.params { sending pos cnt level with runState := rs, queue := q, inputs := pins } where
  idle h := by cases h
  inFlight _ := ⟨v3, frameBits v3, rfl, by decide, h1, h2, h3⟩
  running _ := hrs
  queueFits := fitsDepth_one _ hq
  histFits := fitsDepth_one _ (Nat.zero_le 1)
  records f hf := by
    simp only [pipeline, sending, State.reset, List.nil_append, Option.toList_some, List.mem_append,
      List.mem_singleton] at hf
    rcases hf with rfl | hf
    · exact ⟨by decide, by decide⟩
    · exact hv f hf

/-- An idle state with at most one queued frame is good. -/
theorem waiting_good (rs : RunState) (q : List FrameRecord) (hq : q.length ≤ 1) (hv : ∀ f ∈ q, f.WellMade)
    (pins : List Pins) : State.Good Config.params { State.reset with runState := rs, queue := q, inputs := pins } where
  idle _ := ⟨rfl, rfl, rfl, rfl⟩
  inFlight h := by cases h
  running h := by cases h
  queueFits := fitsDepth_one _ hq
  histFits := fitsDepth_one _ (Nat.zero_le 1)
  records f hf := by
    simp only [pipeline, State.reset, List.nil_append, Option.toList_none] at hf
    exact hv f hf

theorem v1_wellMade : ∀ f ∈ [v1], f.WellMade := by decide

theorem witness_EncodeThenDecodeGivesInstruction :
    (Instr.rdUnmapped80FF 0xFC).wellFormed = true ∧ (Instr.reservedOp47 0x4).wellFormed = true ∧
    (Instr.wrTxId 0xFFFFFFFF).wellFormed = true := by decide

theorem witness_IgnoredBitsSelectNothing : (0x3 : Word) &&& 0xF = 0xFFFFFFF3 &&& 0xF := by decide

theorem witness_NopChangesNothing : (0xFFFFFFF0 : Word) &&& 0xF = 0 := by decide

theorem witness_StartFollowsRunState :
    State.reset.runState = .stopped ∧ { State.reset with runState := .running }.runState = .running ∧
    { State.reset with runState := .stopping }.runState = .stopping ∧
    (let s := facing (commandPins 1) { State.reset with queue := [v1] }
     (currentPins s).commands 0x1 = true ∧ s.runState ≠ .stopping ∧ s.busy = false ∧ s.queue = v1 :: [] ∧ v1.Valid) := by
  decide

theorem witness_StopFollowsRunState :
    { State.reset with runState := .running }.runState = .running ∧
    { State.reset with runState := .stopping }.runState ≠ .running ∧
    (let s := facing (commandPins 2) { State.reset with runState := .running }
     (currentPins s).commands 0x2 = true ∧ s.busy = false) := by decide

/-- The last slot, the longest payload and the largest identifiers. -/
theorem witness_EnqueueAppendsValidFrame :
    (∃ s : State, s.txDlc.toNat = 8 ∧ s.txDlc.toNat ≤ 8 ∧ (s.txExt = false → s.txId.toNat ≤ 0x7FF) ∧
      (s.txExt = true → s.txId.toNat ≤ 0x1FFFFFFF) ∧
      (∀ n h1 h2, oneFrame.queueDepth = .bounded n h1 h2 → s.queue.length ≠ n) ∧ s.queue = []) ∧
    (∃ s : State, s.txExt = true ∧ s.txId = 0x1FFFFFFF ∧ s.txDlc.toNat ≤ 8 ∧ (s.txExt = false → s.txId.toNat ≤ 0x7FF) ∧
      (s.txExt = true → s.txId.toNat ≤ 0x1FFFFFFF) ∧ s.queue = []) :=
  ⟨⟨staged 0x7FF 0x008 0 0, by decide, by decide, by decide, by decide,
      fun n _ _ h => by cases h; decide, rfl⟩,
    ⟨staged 0x1FFFFFFF 0x100 0 0, by decide⟩⟩

theorem witness_EnqueueReportsFirstError :
    8 < (staged 0 0x009 0 0).txDlc.toNat ∧
    (let s := staged 0x800 0x008 0 0; s.txDlc.toNat ≤ 8 ∧ s.txExt = false ∧ 0x7FF < s.txId.toNat) ∧
    (let s := staged 0x20000000 0x108 0 0; s.txDlc.toNat ≤ 8 ∧ s.txExt = true ∧ 0x1FFFFFFF < s.txId.toNat) ∧
    (let s := { staged 0x7FF 0x008 0 0 with queue := [v1] }
     s.txDlc.toNat ≤ 8 ∧ (s.txExt = false → s.txId.toNat ≤ 0x7FF) ∧ (s.txExt = true → s.txId.toNat ≤ 0x1FFFFFFF) ∧
       oneFrame.queueDepth = .bounded 1 (by decide) (by decide) ∧ s.queue.length = 1) := by
  refine ⟨by decide, by decide, by decide, by decide, by decide, by decide, rfl, rfl⟩

theorem witness_ReservedOpcodesReportBadCommand :
    4 ≤ ((0x4 : Word) &&& 0xF).toNat ∧ 4 ≤ ((0xFFFFFFFF : Word) &&& 0xF).toNat := by decide

theorem witness_CmdWritePerformsSelectedCommand :
    (0x10 : Word) &&& 0xF = 0x0 ∧ (0x11 : Word) &&& 0xF = 0x1 ∧ (0x12 : Word) &&& 0xF = 0x2 ∧
    (0xFFFFFFF3 : Word) &&& 0xF = 0x3 ∧ 0x4 ≤ ((0x4 : Word) &&& 0xF).toNat ∧ ((0x7 : Word) &&& 0xF).toNat ≤ 0x7 ∧
    0x8 ≤ ((0x8 : Word) &&& 0xF).toNat := by decide

theorem witness_RecordAssembly :
    (7 < 8 ∧ 7 < (staged 0 0x008 0 0).txDlc.toNat) ∧ (∃ c s, enqueueCode c s = .ok) :=
  ⟨by decide, oneFrame, State.reset, by decide⟩

theorem witness_StagingRegistersStoreAndReturn : ∃ t, exec (.wrTxFmt 0xFFFFFFFF) State.reset = .next t := ⟨_, rfl⟩

theorem witness_BitTimeTakenAtDispatch :
    (∃ t, (currentPins (facing (bitTimePins 5) (sending 11 1 recessive))).writesBitTime = true ∧
      (sending 11 1 recessive).busy = true ∧ step (facing (bitTimePins 5) (sending 11 1 recessive)) = .next t) ∧
    (let s := facing (bitTimePins 0) { State.reset with runState := .running, queue := [v1] }
     (currentPins s).writesBitTime = true ∧ s.busy = false ∧ s.runState = .running ∧ s.queue = v1 :: [] ∧ v1.Valid) := by
  obtain ⟨t, h⟩ := exists_next
    (o := step (facing (bitTimePins 5) (sending 11 1 recessive))) (by decide)
  exact ⟨⟨t, by decide, rfl, h⟩, by decide⟩

theorem witness_HistoryViewsShowSelectedEntry :
    recorded.histIndex.toNat < recorded.hist.length ∧
    (writeHistIndex 1 recorded).hist.length ≤ (writeHistIndex 1 recorded).histIndex.toNat := by decide

theorem witness_TimeReadPairIsConsistent :
    ∃ t w : State, exec .rdTimeLo { State.reset with time := 0x1FFFFFFFF } = .next t ∧
      { t with time := 0x200000000 }.timeHiLatch = t.timeHiLatch ∧
      exec .rdTimeHi { t with time := 0x200000000 } = .next w := ⟨_, _, rfl, rfl, rfl⟩

theorem witness_SeqShowsFramePosition :
    State.reset.busy = false ∧
    ((sending 75 1 recessive).busy = true ∧ (sending 75 1 recessive).txf = some v3 ∧
      encodeFrame v3 = .ok (frameBits v3)) := by decide

theorem witness_SeqReadNeedsValidFrame :
    (let s := { State.reset with busy := true }; s.busy = true ∧ s.txf = none) ∧
    (let s := { State.reset with busy := true, txf := some tooWide }
     s.busy = true ∧ s.txf = some tooWide ∧ ¬ tooWide.Valid) := by decide

theorem witness_HostAccessWritesOnlyItsElements : ∃ t, exec (.wrCmd 0x3) State.reset = .next t := ⟨_, rfl⟩

theorem witness_SequencerWritesOnlyItsElements : ∃ t, seqStep oneFrame (sending 75 1 recessive) = .next t :=
  exists_next (by decide)

theorem witness_PresentedWordRunsItsInstruction :
    decodeTableWord 8 0x3 = some .enqueue ∧ decodeTableWord 16 0x04C = some .rdSeq ∧
    decodeTableWord 48 0x0500011C = some (.wrBitTime 0x0500) := by decide

theorem witness_BitHoldDecrementsBitCount :
    (sending 0 2 dominant).busy = true ∧ 1 < (sending 0 2 dominant).bitCnt.toNat := by decide

theorem witness_BitAdvanceShowsNextBit :
    (let s := sending 74 1 recessive
     s.busy = true ∧ s.bitCnt.toNat = 1 ∧ s.txf = some v3 ∧ encodeFrame v3 = .ok (frameBits v3) ∧
       s.bitPos.toNat + 1 < (frameBits v3).length) := by decide

theorem witness_CompletionReturnsToRecessive :
    (let s := sending 75 1 recessive
     s.busy = true ∧ s.bitCnt.toNat = 1 ∧ s.txf = some v3 ∧ encodeFrame v3 = .ok (frameBits v3) ∧
       s.bitPos.toNat + 1 = (frameBits v3).length ∧ histHasRoom oneFrame.histDepth s.hist.length = true) ∧
    (let s := { sending 75 1 recessive with hist := [v1] }
     s.busy = true ∧ s.bitCnt.toNat = 1 ∧ s.txf = some v3 ∧ s.bitPos.toNat + 1 = (frameBits v3).length ∧
       oneFrame.histDepth = .bounded 1 (by decide) (by decide) ∧ 1 ≤ s.hist.length) ∧
    State.Good Config.params { sending 75 1 recessive with runState := .running, queue := [], inputs := [] } :=
  ⟨by decide, ⟨rfl, by decide, rfl, by decide, rfl, by decide⟩,
    sending_good (by decide) (by decide) (by decide) _ (.inl rfl) _ (by decide) (by decide) _⟩

theorem witness_DispatchTakesQueueHead :
    (let s := { State.reset with runState := .running, queue := [v1, v3] }
     s.busy = false ∧ s.runState = .running ∧ s.queue = v1 :: [v3] ∧ v1.Valid) := by decide

theorem witness_StopTakesEffectWhenIdle :
    (let s := { State.reset with runState := .stopping, queue := [v1] }; s.busy = false ∧ s.runState = .stopping) := by
  decide

theorem witness_IdleWaitChangesNothing :
    (State.reset.busy = false ∧ State.reset.runState = .stopped) ∧
    (let s := { State.reset with runState := .running }; s.busy = false ∧ s.runState = .running ∧ s.queue = []) := by
  decide

/-- Two edges without reset, and one reset edge. -/
theorem witness_TimeCountsEdges :
    (∃ t, NoReset 2 State.reset ∧ run 2 State.reset = .next t) ∧
    (currentPins (facing resetPins State.reset)).rst = true := by
  obtain ⟨t, h⟩ := exists_next (o := run 2 State.reset) (by decide)
  exact ⟨⟨t, by decide, h⟩, rfl⟩

theorem witness_ResetEdgeRestoresResetState :
    (currentPins (facing resetPins (sending 11 1 recessive))).rst = true := rfl

theorem witness_ResetHeldKeepsResetState :
    (let s := { sending 11 1 recessive with inputs := [resetPins, resetPins] }
     1 + 1 ≤ s.inputs.length ∧ ∀ p ∈ s.inputs.take (1 + 1), p.rst = true) := by decide

theorem witness_EveryStepKeepsGoodState :
    ∃ t, State.Good Config.params { sending 11 1 recessive with runState := .running, queue := [v1], inputs := [] } ∧
      step { sending 11 1 recessive with runState := .running, queue := [v1], inputs := [] } = .next t := by
  obtain ⟨t, h⟩ := exists_next
    (o := step { sending 11 1 recessive with runState := .running, queue := [v1], inputs := [] }) (by decide)
  exact ⟨t, sending_good (by decide) (by decide) (by decide) _ (.inl rfl) _ (by decide) v1_wellMade _, h⟩

theorem witness_IdleBusIsRecessive :
    ∃ t, run 1 { State.reset with inputs := [commandPins 1] } = .next t ∧ t.busy = false := ⟨_, rfl, rfl⟩

theorem witness_FrameInFlightIsNotCancelled :
    ∃ t, (sending 75 1 recessive).busy = true ∧ (sending 75 1 recessive).txf = some v3 ∧
      (currentPins (sending 75 1 recessive)).rst = false ∧ step (sending 75 1 recessive) = .next t := by
  obtain ⟨t, h⟩ := exists_next (o := step (sending 75 1 recessive)) (by decide)
  exact ⟨t, rfl, rfl, rfl, h⟩

/-- The last bit and the last edge of a bit, and the whole frame. -/
theorem witness_EveryBitLastsThePeriod :
    (let s := sending 0 2 dominant
     s.busy = true ∧ s.txf = some v3 ∧ encodeFrame v3 = .ok (frameBits v3) ∧ s.bitPos = 0 ∧ s.level = dominant ∧
       1 ≤ s.period.toNat ∧ s.bitCnt = s.period ∧ 75 < (frameBits v3).length ∧ 1 < s.period.toNat ∧
       NoReset (75 * s.period.toNat + 1) s ∧ NoReset ((frameBits v3).length * s.period.toNat) s) := by
  refine ⟨rfl, rfl, by decide, rfl, rfl, by decide, rfl, by decide, by decide, ?_, ?_⟩ <;>
    exact fun p hp => by simp [sending, State.reset] at hp

theorem witness_BackToBackFramesHaveOneIdleEdge :
    (let s := { sending 75 1 recessive with runState := .running, queue := [v1], inputs := [commandPins 1, commandPins 0] }
     State.Good Config.params s ∧ s.runState = .running ∧ completesNow s = true ∧ s.queue = v1 :: [] ∧ NoReset 2 s ∧
       ∀ p ∈ s.inputs.take 2, p.commands 0x2 = false) :=
  ⟨sending_good (by decide) (by decide) (by decide) _ (.inl rfl) _ (by decide) v1_wellMade _, rfl, by decide, rfl,
    by decide, by decide⟩

theorem witness_StopLatencyIsBounded :
    (let s := { sending 11 1 recessive with runState := .stopping, queue := [v1], inputs := [commandPins 1] }
     State.Good Config.params s ∧ s.runState = .stopping ∧ s.busy = true ∧ NoReset (125 * s.period.toNat + 1) s) := by
  refine ⟨sending_good (by decide) (by decide) (by decide) _ (.inr rfl) _ (by decide) v1_wellMade _, rfl, rfl, ?_⟩
  intro p hp
  have := List.mem_of_mem_take hp
  simp only [List.mem_singleton] at this
  subst this; rfl

theorem witness_StoppedSequencerDispatchesNothing :
    (let s := { State.reset with queue := [v1], inputs := [commandPins 2, commandPins 3] }
     s.runState = .stopped ∧ s.busy = false ∧ NoReset 2 s ∧ ∀ p ∈ s.inputs.take 2, p.commands 0x1 = false) := by decide

/-- An accepted ENQUEUE and nothing discarded. -/
theorem witness_FramesKeepTheirOrder :
    (let s := { State.reset with runState := .stopped, queue := [], inputs := [commandPins 3] }
     State.Good Config.params s ∧ NoReset 1 s ∧ discardedOver 1 s = 0 ∧ (∃ t, run 1 s = .next t) ∧
       acceptedNow s = some (makeRecord s)) := by
  refine ⟨waiting_good _ _ (by decide) (by decide) _, by decide, rfl, ⟨_, rfl⟩, ?_⟩
  exact if_pos ⟨rfl, enqueueCode_staged⟩

theorem witness_AcceptedFramesAreConserved :
    ∃ t, NoReset 1 { State.reset with inputs := [commandPins 3] } ∧
      run 1 { State.reset with inputs := [commandPins 3] } = .next t := ⟨_, by decide, rfl⟩

theorem witness_HistoryIsAppendOnly :
    ∃ t, NoReset 1 { recorded with histOvf := true } ∧ run 1 { recorded with histOvf := true } = .next t ∧
      0 < recorded.hist.length ∧ { recorded with histOvf := true }.histOvf = true := ⟨_, by decide, rfl, by decide, rfl⟩

theorem witness_QueuedFramesDrainInBoundedTime :
    (let s := { State.reset with runState := .running, queue := [v1], inputs := [commandPins 3] }
     State.Good Config.params s ∧ s.runState = .running ∧ s.busy = false ∧ s.queue = [v1] ++ [] ∧
       ∀ p ∈ s.inputs.take (edgesToSend (max 1 s.bitTime.toNat) [v1]),
         p.rst = false ∧ p.commands 0x2 = false ∧ p.writesBitTime = false) := by
  refine ⟨waiting_good _ _ (by decide) v1_wellMade _, rfl, rfl, rfl, ?_⟩
  intro p hp
  have := List.mem_of_mem_take hp
  simp only [List.mem_singleton] at this
  subst this; decide

/-- Cases (a) to (f), in order. -/
theorem witness_SameEdgeEventsAreOrdered :
    (let s := facing (commandPins 3) { State.reset with runState := .running }
     (currentPins s).commands 0x3 = true ∧ s.runState = .running ∧ s.busy = false ∧ s.queue = [] ∧
       enqueueCode Config.params s = .ok) ∧
    (let s := facing (commandPins 1) { State.reset with queue := [v1] }
     (currentPins s).commands 0x1 = true ∧ s.runState = .stopped ∧ s.busy = false ∧ s.queue = v1 :: [] ∧ v1.Valid) ∧
    (let s := facing (commandPins 2) { State.reset with runState := .running }
     (currentPins s).commands 0x2 = true ∧ s.runState = .running ∧ s.busy = false) ∧
    (let s := facing (commandPins 2) (sending 75 1 recessive)
     (currentPins s).commands 0x2 = true ∧ s.runState = .running ∧ completesNow s = true) ∧
    (let s := facing (commandPins 3) (sending 75 1 recessive)
     (currentPins s).commands 0x3 = true ∧ completesNow s = true) ∧
    (let s := { State.reset with runState := .running, queue := [v1] }
     enqueueCode oneFrame s = .errQFull ∧ s.runState = .running ∧ s.busy = false ∧ s.queue = v1 :: [] ∧ v1.Valid) := by
  refine ⟨⟨by decide, rfl, rfl, rfl, enqueueCode_staged⟩, by decide, by decide, by decide, by decide, by decide⟩

set_option maxRecDepth 2000 in
theorem witness_EncodedLength : ∃ bits, encodeFrame v11 = .ok bits ∧ bits.length = 125 :=
  ⟨frameBits v11, by decide, by decide⟩

theorem witness_StandardFrameLayout : v3.Valid ∧ v3.ext = false := by decide

theorem witness_ExtendedFrameLayout : v11.Valid ∧ v11.ext = true := by decide

/-- Two records that differ in `ts` only have the same bits. -/
theorem witness_EncodingLosesNoField :
    encodeFrame v3 = .ok (frameBits v3) ∧ encodeFrame { v3 with ts := 9 } = .ok (frameBits v3) := by decide

theorem witness_EncodingReadsOnlyWireFields :
    let f := v3; let g := { v3 with ts := 9 }
    f.ext = g.ext ∧ f.dlc = g.dlc ∧ f.id = g.id ∧
      f.payload.toList.take f.dlc.toNat = g.payload.toList.take g.dlc.toNat := by decide

theorem witness_EncodingRefusesInvalidRecords : ¬ tooWide.Valid ∧ v11.Valid := by decide

theorem witness_FramesStartDominantEndRecessive : encodeFrame v1 = .ok (frameBits v1) := by decide

end Sys2Proof.Tests
end

section
/-! PROOFS. The invariant of R26, R17 and R16: encoded frames, the records ENQUEUE makes, and each part of an
edge (O40, O41). -/

namespace Sys2Proof.Machine

/-! ### Encoded frames -/

/-- The length of a valid frame's encoding (R63). -/
theorem frameBits_length {f : FrameRecord} (h : f.Valid) :
    (frameBits f).length = (if f.ext then 61 else 44) + 8 * f.dlc.toNat := by
  obtain ⟨hdlc, -, -⟩ := h
  simp only [frameBits_eq, List.length_append, startOfFrame_length, identifierBits_length, formatControl_length,
    dataLengthBits_length, payloadBits_length f hdlc, crcPlaceholder_length, delimiterAck_length, endOfFrame_length,
    FrameRecord.idWidth]
  split <;> omega

/-- Every encoding has 44 to 125 bits (R63). -/
theorem encodeFrame_length_bounds {f : FrameRecord} {bits : List Bit} (h : encodeFrame f = .ok bits) :
    44 ≤ bits.length ∧ bits.length ≤ 125 := by
  obtain ⟨hvalid, rfl⟩ := encodeFrame_ok_iff.1 h
  have hdlc := hvalid.1
  rw [frameBits_length hvalid]
  split <;> omega

/-- `LEVEL` at a dispatch is bit 0 of the encoding (R109). -/
theorem encodeFrame_getElem?_zero {f : FrameRecord} {bits : List Bit} (h : encodeFrame f = .ok bits) :
    bits[0]? = some (bits.headD dominant) := by
  obtain ⟨-, rfl⟩ := encodeFrame_ok_iff.1 h
  rw [frameBits_zero, frameBits_head]

/-! ### Records and their stores -/

/-- A record held is in the history, in flight or in the queue (R122). -/
theorem mem_pipeline {s : State} {f : FrameRecord} :
    f ∈ pipeline s ↔ f ∈ s.hist ∨ s.txf = some f ∨ f ∈ s.queue := by
  simp [pipeline]

theorem fitsDepth_mono {d : Depth} {m n : Nat} (hmn : m ≤ n) (h : fitsDepth d n) : fitsDepth d m := by
  cases d with
  | unbounded => trivial
  | bounded k _ _ => exact Nat.le_trans hmn h

/-- A queue that fits and is not full takes one more frame (R21, R89). -/
theorem fitsDepth_succ_of_not_queueFull {d : Depth} {n : Nat} (h : fitsDepth d n) (hfull : queueFull d n = false) :
    fitsDepth d (n + 1) := by
  cases d with
  | unbounded => trivial
  | bounded k _ _ =>
    have hne : n ≠ k := by simpa [queueFull] using hfull
    exact Nat.lt_of_le_of_ne h hne

/-- A history with room takes one more frame (R22, R115). -/
theorem fitsDepth_succ_of_histHasRoom {d : Depth} {n : Nat} (hroom : histHasRoom d n = true) : fitsDepth d (n + 1) := by
  cases d with
  | unbounded => trivial
  | bounded k _ _ =>
    have hlt : n < k := by simpa [histHasRoom] using hroom
    exact hlt

/-- ENQUEUE accepts exactly when each of R89's checks passes. -/
theorem enqueueCode_eq_ok_iff {c : Config} {s : State} :
    enqueueCode c s = .ok ↔
      s.txDlc.toNat ≤ 8 ∧ (s.txExt = false → s.txId.toNat ≤ 0x7FF) ∧ (s.txExt = true → s.txId.toNat ≤ 0x1FFFFFFF) ∧
        queueFull c.queueDepth s.queue.length = false := by
  unfold enqueueCode
  split
  · next hdlc => exact iff_of_false (by simp) fun h => Nat.not_lt.2 h.1 hdlc
  split
  · simp_all
  split
  · simp_all
  split <;> simp_all

theorem makeRecord_payload (s : State) :
    (makeRecord s).payload = Vector.ofFn fun k : Fin 8 => recordByte s.txDlc s.txData0 s.txData1 k := rfl

/-- The identifier keeps bits [28:0] of `TX_ID` (R65). -/
theorem makeRecord_id_toNat_le (s : State) : (makeRecord s).id.toNat ≤ s.txId.toNat := by
  simp only [makeRecord, BitVec.extractLsb'_toNat, Nat.shiftRight_zero]
  exact Nat.mod_le _ _

/-- The bytes at index `dlc` and above are 0 (R16, R65). -/
theorem makeRecord_zeroFilled (s : State) : (makeRecord s).ZeroFilled := by
  intro b hb
  obtain ⟨j, hj, rfl⟩ := List.mem_drop_iff_getElem.1 hb
  have hge : ¬ (makeRecord s).dlc.toNat + j < s.txDlc.toNat := Nat.not_lt.2 (Nat.le_add_right _ _)
  simp [makeRecord_payload, recordByte, hge]

/-- A record that ENQUEUE accepts is well made (R17, R65, R89). -/
theorem makeRecord_wellMade {c : Config} {s : State} (h : enqueueCode c s = .ok) : (makeRecord s).WellMade := by
  obtain ⟨hdlc, hstd, hext, -⟩ := enqueueCode_eq_ok_iff.1 h
  have hid := makeRecord_id_toNat_le s
  exact ⟨⟨hdlc, fun he => hid.trans (hstd he), fun he => hid.trans (hext he)⟩, makeRecord_zeroFilled s⟩

/-! ### The invariant, part by part of an edge -/

/-- `P >= 1` (R112). -/
theorem bitPeriod_pos (w : Word) : 1 ≤ (bitPeriod w).toNat := by
  unfold bitPeriod
  split
  · decide
  · next h => exact Nat.pos_of_ne_zero fun h0 => h (BitVec.eq_of_toNat_eq h0)

section
variable {c : Config} {s t : State}

theorem State.Good.after_beginEdge (h : s.Good c) : (beginEdge s).Good c :=
  ⟨h.idle, h.inFlight, h.running, h.queueFits, h.histFits, h.records⟩

theorem State.Good.after_tick (h : s.Good c) : (tick s).Good c :=
  ⟨h.idle, h.inFlight, h.running, h.queueFits, h.histFits, h.records⟩

/-- A host access can only extend the queue by a well-made record that fits, and cannot stop a frame in flight. -/
theorem State.Good.after_exec {i : Instr} (h : s.Good Config.params) (he : exec i s = .next t) :
    t.Good Config.params := by
  obtain ⟨hlevel, hbusy, htxf, hpos, hcnt, hperiod, hhist, -, -, -⟩ := exec_frame he
  refine ⟨?idle, ?inFlight, ?running, ?queueFits, ?histFits, ?records⟩
  case idle => simpa only [hbusy, hlevel, htxf, hpos, hcnt] using h.idle
  case inFlight => simpa only [hbusy, hlevel, htxf, hpos, hcnt, hperiod] using h.inFlight
  case running =>
    intro hb
    rcases exec_runState he with hr | ⟨-, hr⟩ | ⟨-, hr⟩
    · rw [hr]; exact h.running (hbusy ▸ hb)
    · exact .inl hr
    · exact .inr hr
  case histFits => simpa only [hhist] using h.histFits
  case queueFits =>
    rcases exec_queue he with hq | ⟨hok, hq⟩
    · rw [hq]; exact h.queueFits
    · obtain ⟨-, -, -, hroom⟩ := enqueueCode_eq_ok_iff.1 hok
      simpa [hq] using fitsDepth_succ_of_not_queueFull h.queueFits hroom
  case records =>
    rcases exec_queue he with hq | ⟨hok, hq⟩
    · simpa only [pipeline, hhist, htxf, hq] using h.records
    · intro f hf
      have hf' : f ∈ pipeline s ∨ f = makeRecord s := by
        simp only [mem_pipeline, hhist, htxf, hq, List.mem_append, List.mem_singleton] at hf ⊢
        tauto
      rcases hf' with hf' | rfl
      · exact h.records f hf'
      · exact makeRecord_wellMade hok

theorem State.Good.after_hostAccess {p : Pins} (h : s.Good Config.params) (he : hostAccess p s = .next t) :
    t.Good Config.params := by
  rcases hostAccess_cases he with ⟨-, he⟩ | ⟨-, rfl⟩
  · exact h.after_exec he
  · exact h

/-- Bit hold keeps `1 <= BITCNT <= PERIOD`, because it runs only above 1 (R113). -/
theorem State.Good.after_bitHold (h : s.Good c) (hb : s.busy = true) (hc : 1 < s.bitCnt.toNat) :
    (bitHold s).Good c := by
  refine ⟨fun hidle => by simp [hb] at hidle, fun _ => ?_, h.running, h.queueFits, h.histFits, h.records⟩
  obtain ⟨f, bits, htxf, henc, hlevel, -, hle⟩ := h.inFlight hb
  refine ⟨f, bits, htxf, henc, hlevel, ?_⟩
  rw [bitHold_bitCnt, bitHold_period]
  bv_omega

/-- R114: `BITPOS` does not wrap, because an encoding has at most 125 bits. -/
theorem State.Good.after_bitAdvance (h : s.Good c) (hb : s.busy = true) {f : FrameRecord} {bits : List Bit} {b : Bit}
    (htxf : s.txf = some f) (henc : encodeFrame f = .ok bits) (hbit : bits[s.bitPos.toNat + 1]? = some b) :
    (bitAdvance b s).Good c := by
  refine ⟨fun hidle => by simp [hb] at hidle, fun _ => ?_, h.running, h.queueFits, h.histFits, h.records⟩
  obtain ⟨-, -, -, -, -, hpos, hle⟩ := h.inFlight hb
  have hlt : s.bitPos.toNat + 1 < bits.length := (List.getElem?_eq_some_iff.1 hbit).1
  have hlen := (encodeFrame_length_bounds henc).2
  have hnext : (s.bitPos + 1).toNat = s.bitPos.toNat + 1 := by bv_omega
  exact ⟨f, bits, htxf, henc, by rw [bitAdvance_bitPos, hnext]; exact hbit, hpos.trans hle, Nat.le_refl _⟩

/-- Completion leaves nothing in flight, and the history takes the frame only where it has room (R115). -/
theorem State.Good.after_complete (h : s.Good c) {f : FrameRecord} (htxf : s.txf = some f) :
    (complete c f s).Good c := by
  refine ⟨fun _ => ⟨rfl, rfl, rfl, rfl⟩, fun hb => by simp at hb, fun hb => by simp at hb, h.queueFits, ?_, ?_⟩
  · rw [complete_hist]
    split
    · next hroom => simpa using fitsDepth_succ_of_histHasRoom hroom
    · exact h.histFits
  · intro g hg
    refine h.records g (mem_pipeline.2 ?_)
    rcases mem_pipeline.1 hg with hhist | htxf' | hqueue
    · have hmem : g ∈ s.hist ++ [f] := by
        rw [complete_hist] at hhist
        split at hhist
        · exact hhist
        · exact List.mem_append_left [f] hhist
      rcases List.mem_append.1 hmem with hold | hnew
      · exact .inl hold
      · exact .inr (.inl (by rw [htxf, List.mem_singleton.1 hnew]))
    · simp at htxf'
    · exact .inr (.inr hqueue)

/-- Dispatch moves a held record from the queue to `TXF` and starts at its bit 0 (R109). -/
theorem State.Good.after_dispatch (h : s.Good c) (hb : s.busy = false) (hr : s.runState = .running) {f : FrameRecord}
    {rest : List FrameRecord} {bits : List Bit} (hq : s.queue = f :: rest) (henc : encodeFrame f = .ok bits) :
    (dispatch f rest (bits.headD dominant) s).Good c := by
  refine ⟨fun hidle => by simp at hidle, fun _ => ⟨f, bits, rfl, henc, ?_, bitPeriod_pos _, Nat.le_refl _⟩,
    fun _ => .inl hr, fitsDepth_mono (by simp [hq]) h.queueFits, h.histFits, ?_⟩
  · exact encodeFrame_getElem?_zero henc
  · obtain ⟨-, htxf, -, -⟩ := h.idle hb
    have hsame : pipeline (dispatch f rest (bits.headD dominant) s) = pipeline s := by
      simp [pipeline, hq, htxf]
    rw [hsame]
    exact h.records

/-- A stop takes effect with nothing in flight, so no frame is left in a stopped block (R110). -/
theorem State.Good.after_finishStop (h : s.Good c) (hb : s.busy = false) : (finishStop s).Good c :=
  ⟨h.idle, h.inFlight, fun hb' => by simp [hb] at hb', h.queueFits, h.histFits, h.records⟩

theorem State.Good.after_seqStep (h : s.Good c) (he : seqStep c s = .next t) : t.Good c := by
  rcases seqStep_cases he with ⟨hb, hc, rfl⟩ | ⟨hb, -, f, bits, b, htxf, henc, hbit, rfl⟩ |
    ⟨-, -, f, bits, htxf, -, -, rfl⟩ | ⟨hb, -, rfl⟩ | ⟨hb, hr, f, rest, bits, hq, henc, rfl⟩ | ⟨-, -, rfl⟩
  · exact h.after_bitHold hb hc
  · exact h.after_bitAdvance hb htxf henc hbit
  · exact h.after_complete htxf
  · exact h.after_finishStop hb
  · exact h.after_dispatch hb hr hq henc
  · exact h

end

/-- The state after a reset edge is good, whatever the parameters (R140). -/
theorem resetEvent_good (c : Config) (s : State) : (resetEvent c s).Good c where
  idle _ := ⟨rfl, rfl, rfl, rfl⟩
  inFlight hb := by simp at hb
  running hb := by simp at hb
  queueFits := by unfold fitsDepth; split <;> simp
  histFits := by unfold fitsDepth; split <;> simp
  records f hf := by simp [pipeline] at hf

/-- Settles O41: the reset state is what the reset event leaves. -/
theorem resetStateIsGood : Obligations.ResetStateIsGood :=
  fun pins => resetEvent_good Config.params { State.reset with inputs := pins }

/-- Settles O40, part by part of the edge (R107). -/
theorem everyStepKeepsGoodState : Obligations.EveryStepKeepsGoodState := by
  intro s t hs hstep
  rcases step_cases hstep with ⟨-, rfl⟩ | ⟨-, s1, s2, haccess, hseq, rfl⟩
  · exact resetEvent_good Config.params (beginEdge s)
  · exact ((hs.after_beginEdge.after_hostAccess haccess).after_seqStep hseq).after_tick

end Sys2Proof.Machine
end

section
/-! PROOFS. What the sequencer step changes (O27), and runs without reset (O51). -/

namespace Sys2Proof.Machine

/-! ### The sequencer step, element by element -/

section
variable {c : Config} {s t : State}

/-- The sequencer step changes no host register, no time and nothing of the port (R19). -/
theorem seqStep_frame (h : seqStep c s = .next t) :
    t.txId = s.txId ∧ t.txDlc = s.txDlc ∧ t.txExt = s.txExt ∧ t.txData0 = s.txData0 ∧ t.txData1 = s.txData1 ∧
      t.result = s.result ∧ t.bitTime = s.bitTime ∧ t.histIndex = s.histIndex ∧ t.time = s.time ∧
      t.timeHiLatch = s.timeHiLatch ∧ t.rdata = s.rdata ∧ t.inputs = s.inputs := by
  rcases seqStep_cases h with ⟨-, -, rfl⟩ | ⟨-, -, f, bits, b, -, -, -, rfl⟩ | ⟨-, -, f, bits, -, -, -, rfl⟩ |
    ⟨-, -, rfl⟩ | ⟨-, -, f, rest, bits, -, -, rfl⟩ | ⟨-, -, rfl⟩ <;> simp

/-- Only a stop taking effect changes the run state (R110). -/
theorem seqStep_runState (h : seqStep c s = .next t) :
    t.runState = s.runState ∨ s.runState = .stopping ∧ t.runState = .stopped := by
  rcases seqStep_cases h with ⟨-, -, rfl⟩ | ⟨-, -, f, bits, b, -, -, -, rfl⟩ | ⟨-, -, f, bits, -, -, -, rfl⟩ |
    ⟨-, hr, rfl⟩ | ⟨-, -, f, rest, bits, -, -, rfl⟩ | ⟨-, -, rfl⟩
  case inr.inr.inr.inl => exact .inr ⟨hr, rfl⟩
  all_goals exact .inl rfl

/-- Only a dispatch changes the queue: its head goes to `TXF` (R109). -/
theorem seqStep_queue (h : seqStep c s = .next t) :
    t.queue = s.queue ∨ ∃ f, s.queue = f :: t.queue ∧ t.txf = some f := by
  rcases seqStep_cases h with ⟨-, -, rfl⟩ | ⟨-, -, f, bits, b, -, -, -, rfl⟩ | ⟨-, -, f, bits, -, -, -, rfl⟩ |
    ⟨-, -, rfl⟩ | ⟨-, -, f, rest, bits, hq, -, rfl⟩ | ⟨-, -, rfl⟩
  case inr.inr.inr.inr.inl => exact .inr ⟨f, hq, rfl⟩
  all_goals exact .inl rfl

/-- Only a completion changes the history: the frame in flight is appended if there is room, and `HIST_OVF` is set
if there is none (R115). -/
theorem seqStep_hist (h : seqStep c s = .next t) :
    (t.hist = s.hist ∧ t.histOvf = s.histOvf) ∨
      (∃ f, s.txf = some f ∧ t.hist = s.hist ++ [f] ∧ t.histOvf = s.histOvf) ∨
      (t.hist = s.hist ∧ t.histOvf = true) := by
  rcases seqStep_cases h with ⟨-, -, rfl⟩ | ⟨-, -, f, bits, b, -, -, -, rfl⟩ | ⟨-, -, f, bits, htxf, -, -, rfl⟩ |
    ⟨-, -, rfl⟩ | ⟨-, -, f, rest, bits, -, -, rfl⟩ | ⟨-, -, rfl⟩
  case inr.inr.inl =>
    rw [complete_hist, complete_histOvf]
    cases histHasRoom c.histDepth s.hist.length with
    | true => exact .inr (.inl ⟨f, htxf, rfl, rfl⟩)
    | false => exact .inr (.inr ⟨rfl, rfl⟩)
  all_goals exact .inl ⟨rfl, rfl⟩

end

/-- Settles O27, element by element. -/
theorem sequencerWritesOnlyItsElements : Obligations.SequencerWritesOnlyItsElements := by
  intro c s t h
  obtain ⟨hid, hdlc, hext, hd0, hd1, hres, hbt, hidx, htime, hlatch, hrd, hin⟩ := seqStep_frame h
  refine ⟨hid, hdlc, hext, hd0, hd1, hres, hbt, hidx, htime, hlatch, hrd, hin, seqStep_runState h, seqStep_queue h, ?_⟩
  rcases seqStep_hist h with ⟨hh, -⟩ | ⟨f, htxf, hh, -⟩ | ⟨hh, -⟩
  · exact .inl hh
  · exact .inr ⟨f, htxf, hh⟩
  · exact .inl hh

/-! ### Runs without reset -/

theorem run_succ (k : Nat) (s : State) : run (k + 1) s = andThen (step s) (run k) := by
  have hcore : Sys2Proof.core.step s = step s := rfl
  simp only [run, Host.Core.run, hcore]
  cases step s <;> rfl

/-- `exec_frame`, with or without a request (R46). -/
theorem hostAccess_frame {p : Pins} {s t : State} (h : hostAccess p s = .next t) :
    t.level = s.level ∧ t.busy = s.busy ∧ t.txf = s.txf ∧ t.bitPos = s.bitPos ∧ t.bitCnt = s.bitCnt ∧
      t.period = s.period ∧ t.hist = s.hist ∧ t.histOvf = s.histOvf ∧ t.time = s.time ∧ t.inputs = s.inputs := by
  rcases hostAccess_cases h with ⟨-, he⟩ | ⟨-, rfl⟩
  · exact exec_frame he
  · simp

/-- Every edge takes one entry of the schedule (log 1). -/
theorem step_inputs {s t : State} (h : step s = .next t) : t.inputs = s.inputs.tail := by
  rcases step_cases h with ⟨-, rfl⟩ | ⟨-, s1, s2, haccess, hseq, rfl⟩
  · rfl
  · obtain ⟨-, -, -, -, -, -, -, -, -, hin1⟩ := hostAccess_frame haccess
    obtain ⟨-, -, -, -, -, -, -, -, -, -, -, hin2⟩ := seqStep_frame hseq
    exact hin2.trans hin1

/-- What holds of idle pins and of the next entries of the schedule holds of the coming edge's pins (log 1). -/
theorem currentPins_of_forall_mem {P : Pins → Prop} {k : Nat} {s : State} (hidle : P idlePins)
    (h : ∀ p ∈ s.inputs.take (k + 1), P p) : P (currentPins s) := by
  unfold currentPins
  cases hin : s.inputs with
  | nil => exact hidle
  | cons p rest => exact h p (by simp [hin])

/-- What holds of the next `k + 1` entries of the schedule holds, one edge later, of the next `k`. -/
theorem forall_mem_take_after_step {P : Pins → Prop} {k : Nat} {s t : State}
    (h : ∀ p ∈ s.inputs.take (k + 1), P p) (hstep : step s = .next t) : ∀ p ∈ t.inputs.take k, P p := by
  rw [step_inputs hstep]
  cases hin : s.inputs with
  | nil => simp
  | cons p rest => exact fun q hq => h q (by rw [hin]; exact List.mem_cons_of_mem p hq)

theorem currentPins_rst_of_noReset {k : Nat} {s : State} (h : NoReset (k + 1) s) : (currentPins s).rst = false :=
  currentPins_of_forall_mem (P := fun p => p.rst = false) rfl h

theorem NoReset.after_step {k : Nat} {s t : State} (h : NoReset (k + 1) s) (hstep : step s = .next t) : NoReset k t :=
  forall_mem_take_after_step h hstep

/-- A reflexive and transitive relation that every edge without reset respects holds across every run without reset. -/
theorem run_rel_of_step_rel {R : State → State → Prop} (hrefl : ∀ s, R s s)
    (htrans : ∀ s t u, R s t → R t u → R s u)
    (hstep : ∀ s t, (currentPins s).rst = false → step s = .next t → R s t) :
    ∀ (k : Nat) (s t : State), NoReset k s → run k s = .next t → R s t := by
  intro k
  induction k with
  | zero =>
    intro s t _ h
    cases h
    exact hrefl s
  | succ k ih =>
    intro s u hnr h
    rw [run_succ] at h
    obtain ⟨t, hst, htu⟩ := andThen_eq_next.1 h
    exact htrans s t u (hstep s t (currentPins_rst_of_noReset hnr) hst) (ih t u (hnr.after_step hst) htu)

/-- The history of `t` extends that of `s`, and `HIST_OVF` has not been cleared (R22). -/
def HistoryExtends (s t : State) : Prop := s.hist <+: t.hist ∧ (s.histOvf = true → t.histOvf = true)

theorem step_historyExtends {s t : State} (hrst : (currentPins s).rst = false) (h : step s = .next t) :
    HistoryExtends s t := by
  rcases step_cases h with ⟨hrst', -⟩ | ⟨-, s1, s2, haccess, hseq, rfl⟩
  · simp [hrst] at hrst'
  obtain ⟨-, -, -, -, -, -, hhist, hovf, -, -⟩ := hostAccess_frame haccess
  rw [beginEdge_hist] at hhist
  rw [beginEdge_histOvf] at hovf
  rw [HistoryExtends, tick_hist, tick_histOvf, ← hhist, ← hovf]
  rcases seqStep_hist hseq with ⟨hh, ho⟩ | ⟨f, -, hh, ho⟩ | ⟨hh, ho⟩ <;> simp [hh, ho]

/-- Settles O51, by induction over the edges of the run. -/
theorem historyIsAppendOnly : Obligations.HistoryIsAppendOnly := by
  intro k s t hnr hrun
  have hext : HistoryExtends s t :=
    run_rel_of_step_rel (R := HistoryExtends) (fun s => ⟨⟨[], List.append_nil _⟩, id⟩)
      (fun s t u hst htu => ⟨hst.1.trans htu.1, htu.2 ∘ hst.2⟩) (fun _ _ => step_historyExtends) k s t hnr hrun
  obtain ⟨hhist, hovf⟩ := hext
  exact ⟨hhist, fun j hj => by
    obtain ⟨newer, hnewer⟩ := hhist
    rw [← hnewer, List.getElem?_append_left hj], hovf⟩

end Sys2Proof.Machine
end

section
/-! PROOFS. The values of the observation registers (O18 to O21) and of all registers after reset (O39). -/

namespace Sys2Proof.Machine

/-! ### Values of the observation registers -/

theorem saturatedCount_toNat (n : Nat) : (saturatedCount n).toNat = min n 0xFFFFFFFF := by
  rw [saturatedCount, BitVec.toNat_ofNat]
  omega

/-- Settles O18: both counts are `saturatedCount` of a length. -/
theorem countsSaturate : Obligations.CountsSaturate := by
  refine ⟨fun s => ⟨⟨qcountView s, rfl, ?_⟩, ⟨histCountView s, rfl, ?_⟩, fun v => ⟨rfl, rfl⟩⟩, rfl, rfl⟩
  · exact saturatedCount_toNat s.queue.length
  · exact saturatedCount_toNat s.hist.length

/-- The two words of a 64-bit value put together again (R41). -/
theorem highWord_append_lowWord (t : BitVec 64) : highWord t ++ lowWord t = t := by
  have hjoin : highWord t ++ lowWord t = t.extractLsb' 0 64 := BitVec.extractLsb'_append_extractLsb'_eq_extractLsb' rfl
  rw [hjoin, BitVec.extractLsb'_eq_self]

/-- Settles O20: the pair is `TIME` because the latch and `rdata` hold the two words of one value. -/
theorem timeReadPairIsConsistent : Obligations.TimeReadPairIsConsistent := by
  refine ⟨fun s => ⟨rfl, rfl⟩, ?_, rfl, rfl⟩
  intro s t u w hlo hlatch hhi
  cases hlo
  cases hhi
  have hpair : u.timeHiLatch = highWord s.time := hlatch
  change u.timeHiLatch ++ lowWord s.time = s.time
  rw [hpair, highWord_append_lowWord]

theorem histView_of_lt {s : State} (field : FrameRecord → Word) (h : s.histIndex.toNat < s.hist.length) :
    histView field s = field s.hist[s.histIndex.toNat] := by
  simp [histView, histEntry, h]

theorem histView_of_ge {s : State} (field : FrameRecord → Word) (h : s.hist.length ≤ s.histIndex.toNat) :
    histView field s = 0 := by
  simp [histView, histEntry, h]

theorem recordIdWord_toNat (e : FrameRecord) : (recordIdWord e).toNat = e.id.toNat :=
  BitVec.toNat_setWidth_of_le (by decide)

/-- The fields of `HIST_FMT` (R40). -/
theorem recordFmtWord_fields (e : FrameRecord) :
    (recordFmtWord e).extractLsb' 0 4 = e.dlc ∧ (recordFmtWord e).extractLsb' 4 4 = 0 ∧
      (recordFmtWord e).getLsbD 8 = e.ext ∧ (recordFmtWord e).extractLsb' 9 22 = 0 ∧
      (recordFmtWord e).getLsbD 31 = true := by
  have hall : ∀ (ext : Bit) (dlc : BitVec 4),
      let w : Word := bitWord true <<< 31 ||| bitWord ext <<< 8 ||| dlc.setWidth 32
      w.extractLsb' 0 4 = dlc ∧ w.extractLsb' 4 4 = 0 ∧ w.getLsbD 8 = ext ∧ w.extractLsb' 9 22 = 0 ∧
        w.getLsbD 31 = true := by decide
  exact hall e.ext e.dlc

/-- The bits of a packed word: the byte with the lower index in the less significant bits (R48). -/
theorem packBytes_getLsbD (b0 b1 b2 b3 : Byte) (j : Nat) :
    (packBytes b0 b1 b2 b3).getLsbD j =
      if j < 8 then b0.getLsbD j else if j < 16 then b1.getLsbD (j - 8)
      else if j < 24 then b2.getLsbD (j - 16) else b3.getLsbD (j - 24) := by
  simp only [packBytes, BitVec.getLsbD_or, BitVec.getLsbD_shiftLeft, BitVec.getLsbD_setWidth]
  grind

/-- Byte `k` of a packed word is in bits [8k+7 : 8k] (R48). -/
theorem packBytes_extractLsb' (b : Fin 4 → Byte) (k : Fin 4) :
    (packBytes (b 0) (b 1) (b 2) (b 3)).extractLsb' (8 * k.val) 8 = b k := by
  ext i hi
  rw [BitVec.getElem_extractLsb', packBytes_getLsbD, ← BitVec.getLsbD_eq_getElem hi]
  fin_cases k <;> grind

/-- Settles O19: each view is a field of the selected entry (R40), or 0. -/
theorem historyViewsShowSelectedEntry : Obligations.HistoryViewsShowSelectedEntry := by
  intro s
  refine ⟨histView recordIdWord s, histView recordFmtWord s, histView recordData0Word s, histView recordData1Word s,
    histView recordTsLoWord s, histView recordTsHiWord s, rfl, rfl, rfl, rfl, rfl, rfl, fun h => ?_, fun h => ?_⟩
  · simp only [histView_of_lt _ h]
    generalize s.hist[s.histIndex.toNat] = e
    obtain ⟨hdlc, hlow, hext, hhigh, hvalid⟩ := recordFmtWord_fields e
    refine ⟨recordIdWord_toNat e, hdlc, hlow, hext, hhigh, hvalid, fun k hk => ⟨?_, ?_⟩, highWord_append_lowWord e.ts⟩
    · exact packBytes_extractLsb' (fun j => e.payload[j.val]) ⟨k, hk⟩
    · exact packBytes_extractLsb' (fun j => e.payload[j.val + 4]) ⟨k, hk⟩
  · simp only [histView_of_ge _ h, and_self]

/-! ### `SEQ` -/

theorem seqView_of_idle {s : State} (h : s.busy = false) : seqView s = .ok 0 := by
  simp [seqView, h]

theorem seqView_of_inFlight {s : State} {f : FrameRecord} {bits : List Bit} (hb : s.busy = true)
    (htxf : s.txf = some f) (henc : encodeFrame f = .ok bits) :
    seqView s = .ok (BitVec.ofNat 32 bits.length <<< 8 ||| s.bitPos.setWidth 32) := by
  simp [seqView, encodeTxf, hb, htxf, henc]

theorem exec_rdSeq_of_seqView {s : State} {v : Word} (h : seqView s = .ok v) :
    exec .rdSeq s = .next (returnData v s) := by
  simp only [exec, execRdSeq, h]

/-- `FRAME_LEN` and `BITPOS` do not overlap in the word that `SEQ` shows (R42). -/
theorem seqWord_toNat {n : Nat} (hn : n < 256) (p : BitVec 7) :
    (BitVec.ofNat 32 n <<< 8 ||| p.setWidth 32).toNat = 256 * n + p.toNat := by
  have hp : p.toNat < 2 ^ 8 := by omega
  have hn' : n % 2 ^ 32 = n := by omega
  have hp' : p.toNat % 2 ^ 32 = p.toNat := by omega
  have hshift : (n <<< 8) % 2 ^ 32 = n <<< 8 := by rw [Nat.shiftLeft_eq]; omega
  rw [BitVec.toNat_or, BitVec.toNat_shiftLeft, BitVec.toNat_ofNat, BitVec.toNat_setWidth, hn', hp', hshift,
    ← Nat.shiftLeft_add_eq_or_of_lt hp, Nat.shiftLeft_eq]
  omega

/-- Settles O21: an encoding has 44 to 125 bits, so `FRAME_LEN` fits its field and is not 0. -/
theorem seqShowsFramePosition : Obligations.SeqShowsFramePosition := by
  refine fun s => ⟨fun hb => exec_rdSeq_of_seqView (seqView_of_idle hb), fun f bits hb htxf henc => ?_⟩
  obtain ⟨hmin, hmax⟩ := encodeFrame_length_bounds henc
  have hword := seqWord_toNat (Nat.lt_of_le_of_lt hmax (by decide)) s.bitPos
  refine ⟨_, exec_rdSeq_of_seqView (seqView_of_inFlight hb htxf henc), ?_, ?_, hmin, hmax, ?_, ?_⟩
  · rw [BitVec.extractLsb'_toNat, hword, Nat.shiftRight_eq_div_pow]
    omega
  · rw [BitVec.extractLsb'_toNat, hword, Nat.shiftRight_eq_div_pow]
    omega
  · apply BitVec.eq_of_toNat_eq
    rw [BitVec.extractLsb'_toNat, hword, Nat.shiftRight_eq_div_pow]
    change _ = 0
    omega
  · intro h0
    have hzero : (0 : Word).toNat = 0 := rfl
    rw [h0, hzero] at hword
    omega

/-! ### Register values after reset -/

/-- At every offset but those of `STATUS` and `BIT_TIME` the reset state reads 0 (R30). -/
theorem readValue_reset_of_ne {o : Byte} (hstatus : o ≠ 0x18) (htime : o ≠ 0x1C) :
    readValue o State.reset = .ok 0 := by
  unfold readValue
  split
  case h_7 h => exact absurd (BitVec.eq_of_toNat_eq h) hstatus
  case h_8 h => exact absurd (BitVec.eq_of_toNat_eq h) htime
  all_goals rfl

/-- Settles O39: the two offsets that read a value of their own, then all others. -/
theorem resetRegistersReadTheirResetValues : Obligations.ResetRegistersReadTheirResetValues := by
  intro addr
  generalize addr &&& 0xFC = o
  by_cases hstatus : o = 0x18
  · subst hstatus; rfl
  by_cases htime : o = 0x1C
  · subst htime; rfl
  rw [if_neg hstatus, if_neg htime, readValue_reset_of_ne hstatus htime]

end Sys2Proof.Machine
end

section
/-! PROOFS. Which instruction can have which effect on the state (O26). -/

namespace Sys2Proof.Machine

/-! ### The effect of each instruction -/

/-- Instruction `i` performs command `cmd`: it is the command, or a write of `CMD` that selects it (R97). -/
def Performs (i cmd : Instr) : Prop := i = cmd ∨ ∃ v, i = .wrCmd v ∧ decodeCommand v = cmd

/-- Instruction `i` has a reserved opcode, by itself or as a write of `CMD` (R90). -/
def HasReservedOpcode (i : Instr) : Prop :=
  ∃ op, Performs i (.reservedOp47 op) ∨ Performs i (.reservedOp8F op)

/-- Which instruction can have which effect on `s` (R19's "written by" column). -/
inductive HostEffect (s : State) (i : Instr) : State → Prop where
  | unchanged : HostEffect s i s
  | returnsData (v : Word) : HostEffect s i (returnData v s)
  | latchesTime (h : i = .rdTimeLo) : HostEffect s i (latchTimeHi (returnData (lowWord s.time) s))
  | writesTxId (v : Word) (h : i = .wrTxId v) : HostEffect s i (writeTxId v s)
  | writesTxFmt (v : Word) (h : i = .wrTxFmt v) : HostEffect s i (writeTxFmt v s)
  | writesTxData0 (v : Word) (h : i = .wrTxData0 v) : HostEffect s i (writeTxData0 v s)
  | writesTxData1 (v : Word) (h : i = .wrTxData1 v) : HostEffect s i (writeTxData1 v s)
  | writesBitTime (v : Word) (h : i = .wrBitTime v) : HostEffect s i (writeBitTime v s)
  | writesHistIndex (v : Word) (h : i = .wrHistIndex v) : HostEffect s i (writeHistIndex v s)
  | starts (h : Performs i .start) : HostEffect s i (startCommand s)
  | stops (h : Performs i .stop) : HostEffect s i (stopCommand s)
  | enqueues (h : Performs i .enqueue) : HostEffect s i (enqueueCommand Config.params s)
  | rejects (h : HasReservedOpcode i) : HostEffect s i (reject .errBadCmd s)

/-- What `CMD[3:0]` selects (R67, R97). -/
theorem performCommand_eq (c : Config) (v : Word) (s : State) :
    performCommand c v s =
      if opcodeField v = 0 then s
      else if opcodeField v = 1 then startCommand s
      else if opcodeField v = 2 then stopCommand s
      else if opcodeField v = 3 then enqueueCommand c s
      else reject .errBadCmd s := by
  unfold performCommand
  generalize opcodeField v = op
  split <;> simp_all [← BitVec.toNat_inj]

/-- The commands by opcode (R67). -/
theorem decodeCommand_opcode (v : Word) :
    (decodeCommand v = .start ↔ opcodeField v = 1) ∧ (decodeCommand v = .stop ↔ opcodeField v = 2) ∧
      (decodeCommand v = .enqueue ↔ opcodeField v = 3) ∧
      (3 < (opcodeField v).toNat →
        decodeCommand v = .reservedOp47 (opcodeField v) ∨ decodeCommand v = .reservedOp8F (opcodeField v)) := by
  unfold decodeCommand
  generalize opcodeField v = op
  revert op
  decide

theorem hostEffect_wrCmd (v : Word) (s : State) : HostEffect s (.wrCmd v) (performCommand Config.params v s) := by
  obtain ⟨hstart, hstop, henqueue, hreserved⟩ := decodeCommand_opcode v
  rw [performCommand_eq]
  split
  · exact .unchanged
  split
  · next h => exact .starts (.inr ⟨v, rfl, hstart.2 h⟩)
  split
  · next h => exact .stops (.inr ⟨v, rfl, hstop.2 h⟩)
  split
  · next h => exact .enqueues (.inr ⟨v, rfl, henqueue.2 h⟩)
  · next h0 h1 h2 h3 =>
    have hgt : 3 < (opcodeField v).toNat := by bv_omega
    rcases hreserved hgt with h | h
    · exact .rejects ⟨opcodeField v, .inl (.inr ⟨v, rfl, h⟩)⟩
    · exact .rejects ⟨opcodeField v, .inr (.inr ⟨v, rfl, h⟩)⟩

/-- Everything an instruction that answers a next state has done. -/
theorem exec_hostEffect {i : Instr} {s t : State} (h : exec i s = .next t) : HostEffect s i t := by
  cases i
  case rdSeq =>
    simp only [exec, execRdSeq] at h
    split at h
    · cases h; exact .returnsData _
    · cases h
  case wrCmd v => cases h; exact hostEffect_wrCmd v s
  case start => cases h; exact .starts (.inl rfl)
  case stop => cases h; exact .stops (.inl rfl)
  case enqueue => cases h; exact .enqueues (.inl rfl)
  case reservedOp47 op => cases h; exact .rejects ⟨op, .inl (.inl rfl)⟩
  case reservedOp8F op => cases h; exact .rejects ⟨op, .inr (.inl rfl)⟩
  case rdTimeLo => cases h; exact .latchesTime rfl
  case wrTxId v => cases h; exact .writesTxId v rfl
  case wrTxFmt v => cases h; exact .writesTxFmt v rfl
  case wrTxData0 v => cases h; exact .writesTxData0 v rfl
  case wrTxData1 v => cases h; exact .writesTxData1 v rfl
  case wrBitTime v => cases h; exact .writesBitTime v rfl
  case wrHistIndex v => cases h; exact .writesHistIndex v rfl
  case rdTxId | rdTxFmt | rdTxData0 | rdTxData1 | rdCmd | rdResult | rdStatus | rdBitTime | rdQcount | rdHistCount |
      rdHistIndex | rdHistId | rdHistFmt | rdHistData0 | rdHistData1 | rdHistTsLo | rdHistTsHi | rdTimeHi |
      rdUnmapped505F | rdUnmapped607F | rdUnmapped80FF =>
    cases h; exact .returnsData _
  -- what remains is NOP and the ignored writes
  all_goals cases h; exact .unchanged

namespace HostEffect
variable {s t : State} {i : Instr}

/-- Each staging register changes only by its own write (R95). -/
theorem staging (h : HostEffect s i t) :
    ((∃ v, i = .wrTxId v) ∨ t.txId = s.txId) ∧
      ((∃ v, i = .wrTxFmt v) ∨ t.txDlc = s.txDlc ∧ t.txExt = s.txExt) ∧
      ((∃ v, i = .wrTxData0 v) ∨ t.txData0 = s.txData0) ∧
      ((∃ v, i = .wrTxData1 v) ∨ t.txData1 = s.txData1) := by
  cases h <;> simp [*]

/-- `BIT_TIME` and `HIST_INDEX` change only by their own writes, the latch only by a read of `TIME_LO` (R99, R101,
R103). -/
theorem otherRegisters (h : HostEffect s i t) :
    ((∃ v, i = .wrBitTime v) ∨ t.bitTime = s.bitTime) ∧
      ((∃ v, i = .wrHistIndex v) ∨ t.histIndex = s.histIndex) ∧
      (i = .rdTimeLo ∨ t.timeHiLatch = s.timeHiLatch) := by
  cases h <;> simp [*]

/-- Only ENQUEUE changes the queue (R89). -/
theorem queue (h : HostEffect s i t) : Performs i .enqueue ∨ t.queue = s.queue := by
  cases h
  case enqueues h => exact .inl h
  all_goals simp

/-- Only START and STOP change the run state (R87, R88). -/
theorem runState (h : HostEffect s i t) : Performs i .start ∨ Performs i .stop ∨ t.runState = s.runState := by
  cases h
  case starts h => exact .inl h
  case stops h => exact .inr (.inl h)
  all_goals simp

/-- Only the commands other than NOP report a result (R35). -/
theorem result (h : HostEffect s i t) :
    Performs i .start ∨ Performs i .stop ∨ Performs i .enqueue ∨ HasReservedOpcode i ∨ t.result = s.result := by
  cases h
  case starts h => exact .inl h
  case stops h => exact .inr (.inl h)
  case enqueues h => exact .inr (.inr (.inl h))
  case rejects h => exact .inr (.inr (.inr (.inl h)))
  all_goals simp

/-- A stopped block stays stopped unless START is performed (R23). -/
theorem stopped (h : HostEffect s i t) (hs : s.runState = .stopped) : Performs i .start ∨ t.runState = .stopped := by
  cases h
  case starts h => exact .inl h
  case stops => simp [stopCommand, hs]
  all_goals simp [hs]

end HostEffect

theorem Performs.command_or_wrCmd {i cmd : Instr} (h : Performs i cmd) (hcmd : cmd ≠ .nop) :
    i = cmd ∨ ∃ v, i = .wrCmd v ∧ decodeCommand v ≠ .nop := by
  rcases h with h | ⟨v, hi, hv⟩
  · exact .inl h
  · exact .inr ⟨v, hi, hv ▸ hcmd⟩

/-- Settles O26: `exec_frame` for what no instruction changes, `HostEffect` for the rest. -/
theorem hostAccessWritesOnlyItsElements : Obligations.HostAccessWritesOnlyItsElements := by
  intro i s t h
  obtain ⟨hlevel, hbusy, htxf, hpos, hcnt, hperiod, hhist, hovf, htime, hin⟩ := exec_frame h
  have heff := exec_hostEffect h
  obtain ⟨hid, hfmt, hd0, hd1⟩ := heff.staging
  obtain ⟨hbt, hidx, hlatch⟩ := heff.otherRegisters
  refine ⟨hlevel, hbusy, htxf, hpos, hcnt, hperiod, hhist, hovf, htime, hin, hid, hfmt, hd0, hd1, hbt, hidx, hlatch,
    heff.queue, ?runState, ?result⟩
  case runState =>
    rcases heff.runState with (h | ⟨v, hi, hv⟩) | (h | ⟨v, hi, hv⟩) | h
    · exact .inl (.inl h)
    · exact .inl (.inr (.inr ⟨v, hi, .inl hv⟩))
    · exact .inl (.inr (.inl h))
    · exact .inl (.inr (.inr ⟨v, hi, .inr hv⟩))
    · exact .inr h
  case result =>
    rcases heff.result with h | h | h | ⟨op, h | h⟩ | h
    case inr.inr.inr.inr => exact .inr h
    all_goals
      rcases h.command_or_wrCmd (by simp) with rfl | ⟨v, rfl, hv⟩ <;> simp_all

end Sys2Proof.Machine
end

section
/-! PROOFS. Commands on the pins, and the stopped idle block (O48). -/

namespace Sys2Proof.Machine

/-! ### Commands on the pins -/

/-- No read decodes to a command or to the write of `CMD` (R70). -/
theorem decodeRead_ne_command (off : Byte) (v : Word) :
    decodeRead off ≠ .wrCmd v ∧ decodeRead off ≠ .start ∧ decodeRead off ≠ .enqueue := by
  unfold decodeRead
  split
  case h_21 => split <;> [simp; split <;> simp]
  all_goals simp

/-- Of the writes, the one at offset 0x10 decodes to the write of `CMD`, and none to a command (R70). -/
theorem decodeWrite_command (off : Byte) (w v : Word) :
    (decodeWrite off w = .wrCmd v → off = 0x10 ∧ w = v) ∧ decodeWrite off w ≠ .start ∧
      decodeWrite off w ≠ .enqueue := by
  unfold decodeWrite
  split
  case h_5 hoff =>
    have hoff' : off = 0x10 := BitVec.eq_of_toNat_eq hoff
    simp [hoff']
  case h_21 => split <;> [simp; split <;> simp]
  all_goals simp

/-- The host performs a command only by a write of `CMD` (R97). -/
theorem decodeAccess_ne_command (a : Access) : decodeAccess a ≠ .start ∧ decodeAccess a ≠ .enqueue := by
  unfold decodeAccess
  split
  · exact (decodeWrite_command _ _ a.wdata).2
  · exact (decodeRead_ne_command _ a.wdata).2

theorem decodeAccess_eq_wrCmd_iff {a : Access} {v : Word} :
    decodeAccess a = .wrCmd v ↔ a.we = true ∧ wordOffset a.addr = 0x10 ∧ a.wdata = v := by
  constructor
  · intro h
    unfold decodeAccess at h
    split at h
    · next hwe => exact ⟨hwe, (decodeWrite_command _ _ v).1 h⟩
    · exact absurd h (decodeRead_ne_command _ v).1
  · rintro ⟨hwe, hoff, rfl⟩
    rw [decodeAccess, if_pos hwe, hoff]
    rfl

section
variable {p : Pins} {s t : State}

/-- `Pins.commands` in terms of the decoded access. -/
theorem commands_iff_decodeAccess {op : BitVec 4} (hrst : p.rst = false) (hreq : p.req = true) :
    p.commands op = true ↔ ∃ v, decodeAccess p.access = .wrCmd v ∧ opcodeField v = op := by
  simp [Pins.commands, decodeAccess_eq_wrCmd_iff, Pins.access, hrst, hreq, and_assoc]

theorem commands_start_of_performs (hrst : p.rst = false) (hreq : p.req = true)
    (h : Performs (decodeAccess p.access) .start) : p.commands 0x1 = true := by
  rcases h with h | ⟨v, hv, hcmd⟩
  · exact absurd h (decodeAccess_ne_command _).1
  · exact (commands_iff_decodeAccess hrst hreq).2 ⟨v, hv, (decodeCommand_opcode v).1.1 hcmd⟩

theorem commands_enqueue_of_performs (hrst : p.rst = false) (hreq : p.req = true)
    (h : Performs (decodeAccess p.access) .enqueue) : p.commands 0x3 = true := by
  rcases h with h | ⟨v, hv, hcmd⟩
  · exact absurd h (decodeAccess_ne_command _).2
  · obtain ⟨-, -, hop, -⟩ := decodeCommand_opcode v
    exact (commands_iff_decodeAccess hrst hreq).2 ⟨v, hv, hop.1 hcmd⟩

/-- Pins that write an opcode to `CMD` perform that command (R97). -/
theorem hostAccess_of_commands {op : BitVec 4} (h : p.commands op = true) (s : State) :
    opcodeField p.wdata = op ∧ hostAccess p s = .next (performCommand Config.params p.wdata s) := by
  simp only [Pins.commands, Bool.and_eq_true, Bool.not_eq_true', beq_iff_eq] at h
  obtain ⟨⟨⟨⟨-, hreq⟩, hwe⟩, hoff⟩, hop⟩ := h
  have hdec : decodeAccess p.access = .wrCmd p.wdata := decodeAccess_eq_wrCmd_iff.2 ⟨hwe, hoff, rfl⟩
  exact ⟨hop, by rw [hostAccess, if_pos hreq, hdec]; rfl⟩

/-- At an edge without reset the queue grows by exactly the record accepted (R89). -/
theorem hostAccess_queue (hrst : (currentPins s).rst = false)
    (h : hostAccess (currentPins s) (beginEdge s) = .next t) : t.queue = s.queue ++ (acceptedNow s).toList := by
  unfold acceptedNow
  cases hcmd : (currentPins s).commands 0x3 with
  | true =>
    obtain ⟨hop, hperf⟩ := hostAccess_of_commands hcmd (beginEdge s)
    have ht : t = enqueueCommand Config.params (beginEdge s) := by
      rw [hperf, performCommand_eq, hop] at h
      simpa using h.symm
    have hqueue : t.queue = if enqueueCode Config.params s = .ok then s.queue ++ [makeRecord s] else s.queue := by
      rw [ht]; rfl
    rw [hqueue]
    split <;> simp_all
  | false =>
    have hsame : t.queue = s.queue := by
      rcases hostAccess_cases h with ⟨hreq, he⟩ | ⟨-, rfl⟩
      · rcases (exec_hostEffect he).queue with hp | hq
        · exact absurd ((commands_enqueue_of_performs hrst hreq hp).symm.trans hcmd) (by simp)
        · exact hq
      · rfl
    simp [hsame]

/-- A stopped block stays stopped through an access that is not START (R23). -/
theorem hostAccess_stopped (hrst : p.rst = false) (hstart : p.commands 0x1 = false) (hs : s.runState = .stopped)
    (h : hostAccess p s = .next t) : t.runState = .stopped := by
  rcases hostAccess_cases h with ⟨hreq, he⟩ | ⟨-, rfl⟩
  · rcases (exec_hostEffect he).stopped hs with hp | ht
    · exact absurd ((commands_start_of_performs hrst hreq hp).symm.trans hstart) (by simp)
    · exact ht
  · exact hs

/-- In an idle state every access completes, the read of `SEQ` too (R46). -/
theorem hostAccess_completes_of_idle (hb : s.busy = false) : ∃ t, hostAccess p s = .next t := by
  unfold hostAccess
  split
  · exact exec_completes fun _ => ⟨0, seqView_of_idle hb⟩
  · exact ⟨s, rfl⟩

/-- Idle wait of a stopped block (R111). -/
theorem seqStep_of_stopped_idle (c : Config) (hr : s.runState = .stopped) (hb : s.busy = false) :
    seqStep c s = .next s := by
  simp [seqStep, idleStep, hr, hb]

end

/-- One edge of a stopped idle block without reset and START (R88, R111). -/
theorem step_of_stopped_idle {s : State} (hr : s.runState = .stopped) (hb : s.busy = false)
    (hrst : (currentPins s).rst = false) (hstart : (currentPins s).commands 0x1 = false) :
    ∃ t, step s = .next t ∧ t.runState = .stopped ∧ t.busy = false ∧ t.txf = s.txf ∧ t.level = s.level ∧
      t.hist = s.hist ∧ t.queue = s.queue ++ (acceptedNow s).toList := by
  obtain ⟨s1, haccess⟩ := hostAccess_completes_of_idle (p := currentPins s) (s := beginEdge s) hb
  obtain ⟨hlevel, hbusy, htxf, -, -, -, hhist, -, -, -⟩ := hostAccess_frame haccess
  have hr1 : s1.runState = .stopped := hostAccess_stopped (s := beginEdge s) hrst hstart hr haccess
  have hb1 : s1.busy = false := hbusy.trans hb
  have hqueue : s1.queue = s.queue ++ (acceptedNow s).toList := hostAccess_queue hrst haccess
  refine ⟨tick s1, ?_, hr1, hb1, htxf, hlevel, hhist, hqueue⟩
  simp [step, edge, edgeWith, hrst, haccess, seqStep_of_stopped_idle Config.params hr1 hb1]

theorem acceptedOver_succ {k : Nat} {s t : State} (h : step s = .next t) :
    acceptedOver (k + 1) s = (acceptedNow s).toList ++ acceptedOver k t := by
  simp [acceptedOver, h]

/-- Settles O48, by induction over the edges: each leaves the block stopped and idle. -/
theorem stoppedSequencerDispatchesNothing : Obligations.StoppedSequencerDispatchesNothing := by
  intro k
  induction k with
  | zero => exact fun s hr hb _ _ => ⟨s, rfl, hr, hb, rfl, rfl, rfl, by simp [acceptedOver]⟩
  | succ k ih =>
    intro s hr hb hnr hns
    have hstart : (currentPins s).commands 0x1 = false :=
      currentPins_of_forall_mem (P := fun p => p.commands 0x1 = false) rfl hns
    obtain ⟨t, hstep, hrt, hbt, htxf, hlevel, hhist, hqueue⟩ :=
      step_of_stopped_idle hr hb (currentPins_rst_of_noReset hnr) hstart
    obtain ⟨u, hrun, hru, hbu, htxf', hlevel', hhist', hqueue'⟩ :=
      ih t hrt hbt (hnr.after_step hstep) (forall_mem_take_after_step hns hstep)
    refine ⟨u, ?_, hru, hbu, htxf'.trans htxf, hlevel'.trans hlevel, hhist'.trans hhist, ?_⟩
    · rw [run_succ, hstep, andThen_next, hrun]
    · rw [hqueue', hqueue, acceptedOver_succ hstep, List.append_assoc]

end Sys2Proof.Machine
end

section
/-! PROOFS. The bits an access and a command word are not decoded by (O3), and the edge of a presented word (O29). -/

namespace Sys2Proof.Machine

/-! ### Ignored bits -/

/-- Clearing `addr[1:0]` leaves the word offset (R49). -/
@[simp] theorem wordOffset_and_mask (addr : Byte) : wordOffset (addr &&& 0xFC) = wordOffset addr := by
  simp [wordOffset, BitVec.and_assoc]

/-- Clearing `CMD[31:4]` leaves the opcode (R66). -/
@[simp] theorem opcodeField_and_mask (v : Word) : opcodeField (v &&& 0xF) = opcodeField v := by
  have hmask : (0xF : Word).extractLsb' 0 4 = BitVec.allOnes 4 := rfl
  rw [opcodeField, BitVec.extractLsb'_and, hmask, BitVec.and_allOnes, opcodeField]

theorem decodeCommand_congr {v w : Word} (h : opcodeField v = opcodeField w) : decodeCommand v = decodeCommand w := by
  simp only [decodeCommand, h]

/-- Settles O3: an access is decoded by its word offset, a command word by its opcode. -/
theorem ignoredBitsSelectNothing : Obligations.IgnoredBitsSelectNothing := by
  refine ⟨fun we addr v => ?_, fun v w h => decodeCommand_congr ?_⟩
  · simp only [decodeAccess, wordOffset_and_mask]
  · rw [← opcodeField_and_mask v, h, opcodeField_and_mask]

/-! ### A word on the pins -/

/-- A command word's instruction is the command that its bits [3:0] select (R67, R97). -/
theorem exec_decodeCommand (v : Word) (s : State) :
    exec (decodeCommand v) s = .next (performCommand Config.params v s) := by
  rw [performCommand_eq]
  unfold decodeCommand
  generalize opcodeField v = op
  split
  case h_1 h =>
    obtain rfl : op = 0 := BitVec.eq_of_toNat_eq h
    rfl
  case h_2 h =>
    obtain rfl : op = 1 := BitVec.eq_of_toNat_eq h
    rfl
  case h_3 h =>
    obtain rfl : op = 2 := BitVec.eq_of_toNat_eq h
    rfl
  case h_4 h =>
    obtain rfl : op = 3 := BitVec.eq_of_toNat_eq h
    rfl
  case h_5 h0 h1 h2 h3 =>
    have hne0 : op ≠ 0 := by rintro rfl; exact h0 rfl
    have hne1 : op ≠ 1 := by rintro rfl; exact h1 rfl
    have hne2 : op ≠ 2 := by rintro rfl; exact h2 rfl
    have hne3 : op ≠ 3 := by rintro rfl; exact h3 rfl
    rw [if_neg hne0, if_neg hne1, if_neg hne2, if_neg hne3]
    split <;> rfl

/-- A command word is presented as a write of `CMD` (R97). -/
theorem decodeAccess_access_cmd32 (v : Word) : decodeAccess (TableWord.cmd32 v).access = .wrCmd v := by
  have hoff : wordOffset 0x10 = 0x10 := by decide
  exact decodeAccess_eq_wrCmd_iff.2 ⟨rfl, hoff, rfl⟩

/-- A command word, presented as a write of `CMD`, does what its own instruction does (R97). -/
theorem exec_decodeAccess_access (t : TableWord) (s : State) :
    exec (decodeAccess t.access) s = exec (decode t) s := by
  cases t with
  | cmd32 v =>
    rw [decodeAccess_access_cmd32, decode, exec_decodeCommand]
    rfl
  | hostAcc key wdata => rfl

theorem decodeTableWord_eq_some_iff {nbits w : Nat} {i : Instr} :
    decodeTableWord nbits w = some i ↔ ∃ t, TableWord.ofBits nbits w = .ok t ∧ decode t = i := by
  unfold decodeTableWord decodeBits
  cases TableWord.ofBits nbits w <;> simp

theorem withFetchWord_of_ofBits {nbits w : Nat} {t : TableWord} (h : TableWord.ofBits nbits w = .ok t) (s : State) :
    s.withFetchWord nbits w = presentPins (pinsOfAccess t.access) s := by
  simp only [State.withFetchWord, pinsOfBits, h]

/-- One edge with an access on the pins (R46, R107). -/
theorem step_presentPins_access (a : Access) (s : State) :
    step (presentPins (pinsOfAccess a) s) =
      andThen (exec (decodeAccess a) (beginEdge s)) fun s1 =>
        andThen (seqStep Config.params s1) fun s2 => .next (tick s2) := rfl

/-- Settles O29: the pattern's word is on the pins, and the access that presents it does what its instruction does. -/
theorem presentedWordRunsItsInstruction : Obligations.PresentedWordRunsItsInstruction := by
  intro s nbits w i h
  obtain ⟨t, hword, rfl⟩ := decodeTableWord_eq_some_iff.1 h
  rw [withFetchWord_of_ofBits hword, step_presentPins_access, exec_decodeAccess_access]
  rfl

end Sys2Proof.Machine
end

section
/-! PROOFS. Instructions and their words (O1, O2, O4). -/

namespace Sys2Proof

/-! ### Encode, then decode -/

open Laws.EncodeRoundTrip in
/-- Each row's canonical word decodes to the row, operands included (R67, R70). -/
theorem decode_encode : ∀ i : Instr, Statement i
  | .nop => nop
  | .start => start
  | .stop => stop
  | .enqueue => enqueue
  | .reservedOp47 op => reservedOp47 op
  | .reservedOp8F op => reservedOp8F op
  | .rdTxId => rdTxId
  | .wrTxId v => wrTxId v
  | .rdTxFmt => rdTxFmt
  | .wrTxFmt v => wrTxFmt v
  | .rdTxData0 => rdTxData0
  | .wrTxData0 v => wrTxData0 v
  | .rdTxData1 => rdTxData1
  | .wrTxData1 v => wrTxData1 v
  | .rdCmd => rdCmd
  | .wrCmd v => wrCmd v
  | .rdResult => rdResult
  | .rdStatus => rdStatus
  | .rdBitTime => rdBitTime
  | .wrBitTime v => wrBitTime v
  | .rdQcount => rdQcount
  | .rdHistCount => rdHistCount
  | .rdHistIndex => rdHistIndex
  | .wrHistIndex v => wrHistIndex v
  | .rdHistId => rdHistId
  | .rdHistFmt => rdHistFmt
  | .rdHistData0 => rdHistData0
  | .rdHistData1 => rdHistData1
  | .rdHistTsLo => rdHistTsLo
  | .rdHistTsHi => rdHistTsHi
  | .rdTimeLo => rdTimeLo
  | .rdTimeHi => rdTimeHi
  | .rdSeq => rdSeq
  | .wrResultIgnored v => wrResultIgnored v
  | .wrStatusIgnored v => wrStatusIgnored v
  | .wrQcountIgnored v => wrQcountIgnored v
  | .wrHistCountIgnored v => wrHistCountIgnored v
  | .wrHistIdIgnored v => wrHistIdIgnored v
  | .wrHistFmtIgnored v => wrHistFmtIgnored v
  | .wrHistData0Ignored v => wrHistData0Ignored v
  | .wrHistData1Ignored v => wrHistData1Ignored v
  | .wrHistTsLoIgnored v => wrHistTsLoIgnored v
  | .wrHistTsHiIgnored v => wrHistTsHiIgnored v
  | .wrTimeLoIgnored v => wrTimeLoIgnored v
  | .wrTimeHiIgnored v => wrTimeHiIgnored v
  | .wrSeqIgnored v => wrSeqIgnored v
  | .rdUnmapped505F off => rdUnmapped505F off
  | .wrUnmapped505F off v => wrUnmapped505F off v
  | .rdUnmapped607F off => rdUnmapped607F off
  | .wrUnmapped607F off v => wrUnmapped607F off v
  | .rdUnmapped80FF off => rdUnmapped80FF off
  | .wrUnmapped80FF off v => wrUnmapped80FF off v

/-- Settles O1, row by row. -/
theorem encodeThenDecodeGivesInstruction : Obligations.EncodeThenDecodeGivesInstruction := decode_encode

/-! ### Decode, then encode -/

/-- What O2 says of one instruction: it is well-formed, and `t` is its word. -/
def HasWord (i : Instr) (t : TableWord) : Prop := i.wellFormed = true ∧ encode i = t

@[simp] theorem opcodeField_setWidth (op : BitVec 4) : opcodeField (op.setWidth 32) = op := by
  revert op; decide

/-- The row of a command word is the row of its opcode alone (R66, R67). -/
theorem decodeCommand_hasWord (v : Word) : HasWord (decodeCommand v) (commandWord (opcodeField v)) := by
  have hrows : ∀ op : BitVec 4, HasWord (decodeCommand (op.setWidth 32)) (commandWord op) := by
    unfold HasWord; decide
  have hrow := hrows (opcodeField v)
  rwa [Machine.decodeCommand_congr (opcodeField_setWidth (opcodeField v))] at hrow

/-- A word offset is a multiple of 4 (R49). -/
theorem wordOffset_toNat_mod (addr : Byte) : (wordOffset addr).toNat % 4 = 0 := by
  revert addr; decide

/-- The unmapped rows cover every word offset beyond the registers (R105, R106). -/
theorem unmappedOffset_of_range :
    ∀ off : Byte, off.toNat % 4 = 0 → 0x50 ≤ off.toNat →
      (off.toNat < 0x60 → unmappedOffset 0xF0 0x50 off = true) ∧
      (0x60 ≤ off.toNat → off.toNat < 0x80 → unmappedOffset 0xE0 0x60 off = true) ∧
      (0x80 ≤ off.toNat → unmappedOffset 0x80 0x80 off = true) := by decide

/-- What O2 says of a read and of a write at one word offset. -/
def OffsetHasWords (off : Byte) : Prop :=
  HasWord (decodeRead off) (readWord off) ∧ ∀ v, HasWord (decodeWrite off v) (writeWord off v)

/-- The twenty registers (R30). -/
theorem offsetHasWords_register {k : Nat} (hk : k < 20) : OffsetHasWords (BitVec.ofNat 8 (4 * k)) := by
  interval_cases k <;> exact ⟨⟨rfl, rfl⟩, fun _ => ⟨rfl, rfl⟩⟩

/-- The offsets beyond the registers, by unmapped row (R105, R106). -/
theorem offsetHasWords_unmapped {off : Byte} (hmod : off.toNat % 4 = 0) (hge : 0x50 ≤ off.toNat) :
    OffsetHasWords off := by
  obtain ⟨h50, h60, h80⟩ := unmappedOffset_of_range off hmod hge
  simp only [OffsetHasWords, decodeRead_unmapped off hge, decodeWrite_unmapped off _ hge]
  split_ifs with hlt60 hlt80
  · exact ⟨⟨h50 hlt60, rfl⟩, fun _ => ⟨h50 hlt60, rfl⟩⟩
  · have hrow := h60 (by omega) hlt80
    exact ⟨⟨hrow, rfl⟩, fun _ => ⟨hrow, rfl⟩⟩
  · have hrow := h80 (by omega)
    exact ⟨⟨hrow, rfl⟩, fun _ => ⟨hrow, rfl⟩⟩

theorem offsetHasWords_wordOffset (addr : Byte) : OffsetHasWords (wordOffset addr) := by
  have hmod := wordOffset_toNat_mod addr
  by_cases hlt : (wordOffset addr).toNat < 0x50
  · have hoff : wordOffset addr = BitVec.ofNat 8 (4 * ((wordOffset addr).toNat / 4)) :=
      BitVec.eq_of_toNat_eq (by rw [BitVec.toNat_ofNat]; omega)
    rw [hoff]
    exact offsetHasWords_register (by omega)
  · exact offsetHasWords_unmapped hmod (by omega)

theorem decode_hostAcc (key : BitVec 9) (wdata : Word) :
    decode (.hostAcc key wdata) =
      if key.getLsbD 8 then decodeWrite (wordOffset (key.setWidth 8)) wdata
      else decodeRead (wordOffset (key.setWidth 8)) := rfl

theorem canonical_hostAcc (key : BitVec 9) (wdata : Word) :
    (TableWord.hostAcc key wdata).canonical =
      if key.getLsbD 8 then writeWord (wordOffset (key.setWidth 8)) wdata
      else readWord (wordOffset (key.setWidth 8)) := rfl

/-- Settles O2: a command word by its opcode, an access by `we` and its word offset. -/
theorem decodeThenEncodeGivesCanonicalWord : Obligations.DecodeThenEncodeGivesCanonicalWord := by
  intro t
  cases t with
  | cmd32 v => exact decodeCommand_hasWord v
  | hostAcc key wdata =>
    obtain ⟨hread, hwrite⟩ := offsetHasWords_wordOffset (key.setWidth 8)
    rw [decode_hostAcc, canonical_hostAcc]
    split
    · exact hwrite wdata
    · exact hread

/-- Settles O4: eight closed evaluations of the decoder. -/
theorem listedWordsDecode : Obligations.ListedWordsDecode := by
  unfold Obligations.ListedWordsDecode
  decide

end Sys2Proof
end

section
/-! PROOFS. The layout of an encoded frame (O54 to O57) and the record ENQUEUE makes (O12). -/

namespace Sys2Proof.Machine

/-! ### Lengths and positions in an encoded frame -/

/-- Settles O54, from the length of the pseudocode's list. -/
theorem encodedLength : Obligations.EncodedLength := by
  intro f bits h
  have hbounds := encodeFrame_length_bounds h
  obtain ⟨hvalid, rfl⟩ := encodeFrame_ok_iff.1 h
  refine ⟨?_, frameBits_length hvalid, hbounds⟩
  rw [frameBits_length hvalid]
  cases f.ext <;> simp only [if_true, Bool.false_eq_true, if_false] <;> omega

/-- The position of the first payload bit: R61's and R62's `payload` row. -/
def FrameRecord.payloadStart (f : FrameRecord) : Nat := if f.ext then 36 else 19

/-- The format-control bits all equal the extended flag (R76). -/
theorem formatControl_eq (f : FrameRecord) :
    formatControl f = List.replicate (f.payloadStart - 5 - f.idWidth) f.ext := by
  cases h : f.ext <;> simp [formatControl, FrameRecord.payloadStart, FrameRecord.idWidth, h, List.replicate]

/-- The frame with its constant trailer as one field (R79 to R81). -/
theorem frameBits_eq_append_trailer (f : FrameRecord) :
    frameBits f = [dominant] ++ (identifierBits f ++ (formatControl f ++ (dataLengthBits f ++ (payloadBits f ++
      List.replicate 25 recessive)))) := by
  simp [frameBits_eq, startOfFrame, crcPlaceholder, delimiterAck, endOfFrame]

/-- Bit `j` of a row of bytes is bit `7 - j % 8` of byte `j / 8` (R78). -/
theorem byteFields_getElem? (l : List Byte) (j : Nat) :
    (l.flatMap fun b => msbFirst b 8)[j]? = l[j / 8]?.map fun b => b.getLsbD (7 - (j - 8 * (j / 8))) := by
  induction l generalizing j with
  | nil => simp
  | cons b l ih =>
    rw [List.flatMap_cons]
    by_cases hj : j < 8
    · rw [List.getElem?_append_left (by simpa using hj), msbFirst_getElem? b 8 j hj, Nat.div_eq_of_lt hj]
      rfl
    · have hdiv : j / 8 = (j - 8) / 8 + 1 := by omega
      have hmod : j - 8 * ((j - 8) / 8 + 1) = j - 8 - 8 * ((j - 8) / 8) := by omega
      rw [List.getElem?_append_right (by simpa using hj), msbFirst_length, ih, hdiv, List.getElem?_cons_succ, hmod]

theorem payloadBits_getElem? {f : FrameRecord} {j : Nat} (h : j < 8 * f.dlc.toNat) :
    (payloadBits f)[j]? = f.payload.toList[j / 8]?.map fun b => b.getLsbD (7 - (j - 8 * (j / 8))) := by
  rw [payloadBits, byteFields_getElem?, List.getElem?_take_of_lt (by omega)]

/-- R61's and R62's tables as one: each branch is a field, reached by passing over the fields before it. -/
theorem frameBits_getElem? {f : FrameRecord} (hvalid : f.Valid) (p : Nat) :
    (frameBits f)[p]? =
      if p = 0 then some dominant
      else if p ≤ f.idWidth then some (f.id.getLsbD (f.idWidth - p))
      else if p ≤ f.payloadStart - 5 then some f.ext
      else if p ≤ f.payloadStart - 1 then some (f.dlc.getLsbD (f.payloadStart - 1 - p))
      else if p < f.payloadStart + 8 * f.dlc.toNat then
        f.payload.toList[(p - f.payloadStart) / 8]?.map fun b =>
          b.getLsbD (7 - (p - f.payloadStart - 8 * ((p - f.payloadStart) / 8)))
      else if p ≤ f.payloadStart + 24 + 8 * f.dlc.toNat then some recessive
      else none := by
  have hstart : f.idWidth + 7 ≤ f.payloadStart := by
    unfold FrameRecord.idWidth FrameRecord.payloadStart; split <;> omega
  have hsof : [dominant].length = 1 := rfl
  have hid := identifierBits_length f
  have hfmt : (formatControl f).length = f.payloadStart - 5 - f.idWidth := by
    rw [formatControl_eq, List.length_replicate]
  have hdlc := dataLengthBits_length f
  have hpayload := payloadBits_length f hvalid.1
  rw [frameBits_eq_append_trailer]
  split
  · next hzero => rw [hzero]; rfl
  rw [List.getElem?_append_right (by omega), hsof]
  split
  · rw [List.getElem?_append_left (by omega), identifierBits, msbFirst_getElem? _ _ _ (by omega)]
    congr 2
    omega
  rw [List.getElem?_append_right (by omega), hid]
  split
  · rw [List.getElem?_append_left (by omega), formatControl_eq, List.getElem?_replicate_of_lt (by omega)]
  rw [List.getElem?_append_right (by omega), hfmt]
  split
  · rw [List.getElem?_append_left (by omega), dataLengthBits, msbFirst_getElem? _ _ _ (by omega)]
    congr 2
    omega
  have hpos : p - 1 - f.idWidth - (f.payloadStart - 5 - f.idWidth) - 4 = p - f.payloadStart := by omega
  rw [List.getElem?_append_right (by omega), hdlc, hpos]
  split
  · rw [List.getElem?_append_left (by omega), payloadBits_getElem? (by omega)]
  rw [List.getElem?_append_right (by omega), hpayload, List.getElem?_replicate]
  split
  · rw [if_pos (by omega)]
  · rw [if_neg (by omega)]

/-- Settles O55: the common table with an 11-bit identifier and 19 bits before the payload. -/
theorem standardFrameLayout : Obligations.StandardFrameLayout := by
  intro f hvalid hext
  refine ⟨_, encodeFrame_ok_iff.2 ⟨hvalid, rfl⟩, fun p => ?_⟩
  simp only [frameBits_getElem? hvalid, FrameRecord.idWidth, FrameRecord.payloadStart, hext, Bool.false_eq_true,
    if_false, Nat.reduceSub, Nat.reduceAdd]

/-- Settles O56: the common table with a 29-bit identifier and 36 bits before the payload. -/
theorem extendedFrameLayout : Obligations.ExtendedFrameLayout := by
  intro f hvalid hext
  refine ⟨_, encodeFrame_ok_iff.2 ⟨hvalid, rfl⟩, fun p => ?_⟩
  simp only [frameBits_getElem? hvalid, FrameRecord.idWidth, FrameRecord.payloadStart, hext, if_true,
    Nat.reduceSub, Nat.reduceAdd]

/-! ### Injectivity -/

/-- The low `n` bits determine a value below `2 ^ n` (R75, R77). -/
theorem msbFirst_inj {w n : Nat} {u v : BitVec w} (hu : u.toNat < 2 ^ n) (hv : v.toNat < 2 ^ n)
    (h : msbFirst u n = msbFirst v n) : u = v := by
  refine BitVec.eq_of_getLsbD_eq fun i _ => ?_
  by_cases hi : i < n
  · have hbit := congrArg (·[n - 1 - i]?) h
    simp only [msbFirst_getElem? _ _ _ (show n - 1 - i < n by omega), Option.some.injEq] at hbit
    rwa [show n - 1 - (n - 1 - i) = i by omega] at hbit
  · have hpow : 2 ^ n ≤ 2 ^ i := Nat.pow_le_pow_right (by decide) (by omega)
    rw [BitVec.getLsbD, BitVec.getLsbD, Nat.testBit_lt_two_pow (hu.trans_le hpow),
      Nat.testBit_lt_two_pow (hv.trans_le hpow)]

/-- A row of bytes is read back from its bits (R78). -/
theorem byteFields_inj {l m : List Byte}
    (h : (l.flatMap fun b => msbFirst b 8) = m.flatMap fun b => msbFirst b 8) : l = m := by
  have hlen : 8 * l.length = 8 * m.length := by simpa only [byteFields_length] using congrArg List.length h
  induction l generalizing m with
  | nil => exact (List.eq_nil_of_length_eq_zero (by simpa using hlen.symm)).symm
  | cons b l ih =>
    cases m with
    | nil => simp at hlen
    | cons c m =>
      rw [List.flatMap_cons, List.flatMap_cons] at h
      obtain ⟨hbyte, hrest⟩ := List.append_inj h (by simp)
      rw [msbFirst_inj b.isLt c.isLt hbyte, ih hrest (by simpa using hlen)]

/-- A valid identifier fits its field (R17, R60). -/
theorem FrameRecord.Valid.id_lt {f : FrameRecord} (h : f.Valid) : f.id.toNat < 2 ^ f.idWidth := by
  obtain ⟨-, hstd, -⟩ := h
  unfold FrameRecord.idWidth
  cases hext : f.ext with
  | true => exact f.id.isLt
  | false => exact Nat.lt_succ_of_le (hstd hext)

/-- The length of an encoding tells class and payload length: 61 and 44 differ modulo 8 (R63). -/
theorem ext_dlc_eq_of_frameBits_length {f g : FrameRecord} (hf : f.Valid) (hg : g.Valid)
    (h : (frameBits f).length = (frameBits g).length) : f.ext = g.ext ∧ f.dlc = g.dlc := by
  rw [frameBits_length hf, frameBits_length hg] at h
  have hext : f.ext = g.ext := by
    cases hef : f.ext <;> cases heg : g.ext <;> simp only [hef, heg, if_true, Bool.false_eq_true, if_false] at h ⊢
    all_goals omega
  rw [hext] at h
  exact ⟨hext, BitVec.eq_of_toNat_eq (by omega)⟩

/-- Settles O57: the length gives class and payload length, so the fields of both frames end at the same positions. -/
theorem encodingLosesNoField : Obligations.EncodingLosesNoField := by
  intro f g bits hf hg
  obtain ⟨hfv, rfl⟩ := encodeFrame_ok_iff.1 hf
  obtain ⟨hgv, hbits⟩ := encodeFrame_ok_iff.1 hg
  obtain ⟨hext, hdlc⟩ := ext_dlc_eq_of_frameBits_length hfv hgv (congrArg List.length hbits)
  have hwidth : f.idWidth = g.idWidth := by rw [FrameRecord.idWidth, hext, FrameRecord.idWidth]
  rw [frameBits_eq, frameBits_eq] at hbits
  have hafterSof := List.append_cancel_left hbits
  obtain ⟨hid, hafterId⟩ := List.append_inj hafterSof (by simp [hwidth])
  obtain ⟨-, hafterFormat⟩ := List.append_inj hafterId (by simp [formatControl_length, hext])
  obtain ⟨-, hafterDlc⟩ := List.append_inj hafterFormat (by simp)
  have hpayload := List.append_cancel_right hafterDlc
  refine ⟨hext, hdlc, msbFirst_inj hfv.id_lt (hwidth ▸ hgv.id_lt) ?_, byteFields_inj hpayload⟩
  rwa [identifierBits, identifierBits, ← hwidth] at hid

/-! ### The record ENQUEUE makes -/

/-- Settles O12: the fields by definition; ENQUEUE's range checks leave nothing of `TX_ID` above bit 28. -/
theorem recordAssembly : Obligations.RecordAssembly := by
  refine ⟨fun s => ⟨rfl, rfl, rfl, rfl, fun k hk => ?_⟩, fun c s hok => ?_⟩
  · simp only [makeRecord_payload, Vector.getElem_ofFn, recordByte, stagedByte]
  · obtain ⟨hvalid, hzero⟩ := makeRecord_wellMade hok
    obtain ⟨-, hstd, hext, -⟩ := enqueueCode_eq_ok_iff.1 hok
    have hid : s.txId.toNat ≤ 0x1FFFFFFF := by
      cases he : s.txExt with
      | true => exact hext he
      | false => exact (hstd he).trans (by decide)
    refine ⟨hvalid, hzero, ?_⟩
    rw [makeRecord, BitVec.extractLsb'_toNat, Nat.shiftRight_zero]
    exact Nat.mod_eq_of_lt (Nat.lt_succ_of_le hid)

end Sys2Proof.Machine
end

section
/-! PROOFS. The frame encoder as a whole: its constant ends (O60), what it refuses (O59), what it reads (O58), and the
refused reads of `SEQ` (O22). -/

namespace Sys2Proof.Machine

/-! ### The ends of a frame -/

/-- The trailer is where the last 25 bits are (R79 to R81). -/
theorem frameBits_drop_trailer (f : FrameRecord) :
    (frameBits f).drop ((frameBits f).length - 25) = List.replicate 25 recessive := by
  obtain ⟨front, hfront⟩ := frameBits_trailer f
  rw [hfront, List.length_append, List.length_replicate, Nat.add_sub_cancel, List.drop_left]

/-- Settles O60: start-of-frame and trailer are the ends of the pseudocode's list, and a frame is longer than both. -/
theorem framesStartDominantEndRecessive : Obligations.FramesStartDominantEndRecessive := by
  intro f bits h
  obtain ⟨hmin, -⟩ := encodeFrame_length_bounds h
  obtain ⟨-, rfl⟩ := encodeFrame_ok_iff.1 h
  exact ⟨frameBits_zero f, frameBits_drop_trailer f, by omega⟩

/-! ### Valid and invalid records -/

theorem encodeFrame_of_valid {f : FrameRecord} (h : f.Valid) : encodeFrame f = .ok (frameBits f) :=
  encodeFrame_ok_iff.2 ⟨h, rfl⟩

/-- R84's refusal (its name: log 5). -/
theorem encodeFrame_of_not_valid {f : FrameRecord} (h : ¬ f.Valid) : encodeFrame f = .error .invalidRecord :=
  if_neg h

/-- Settles O59: the encoder's two branches. -/
theorem encodingRefusesInvalidRecords : Obligations.EncodingRefusesInvalidRecords :=
  fun f => ⟨encodeFrame_of_not_valid, fun h => ⟨frameBits f, encodeFrame_of_valid h⟩⟩

/-! ### What the encoder reads -/

section
variable {f g : FrameRecord}

/-- R17 reads class, length and identifier. -/
theorem FrameRecord.valid_congr (hext : f.ext = g.ext) (hdlc : f.dlc = g.dlc) (hid : f.id = g.id) :
    f.Valid ↔ g.Valid := by
  rw [FrameRecord.Valid, hext, hdlc, hid]

/-- Each field of R60 reads wire fields alone, and the trailer reads nothing (R72). -/
theorem frameBits_congr (hext : f.ext = g.ext) (hdlc : f.dlc = g.dlc) (hid : f.id = g.id)
    (hpayload : f.payload.toList.take f.dlc.toNat = g.payload.toList.take g.dlc.toNat) :
    frameBits f = frameBits g := by
  have hidentifier : identifierBits f = identifierBits g := by
    rw [identifierBits, identifierBits, FrameRecord.idWidth, FrameRecord.idWidth, hid, hext]
  have hformat : formatControl f = formatControl g := by rw [formatControl, formatControl, hext]
  have hlength : dataLengthBits f = dataLengthBits g := by rw [dataLengthBits, dataLengthBits, hdlc]
  have hbytes : payloadBits f = payloadBits g := by rw [payloadBits, payloadBits, hpayload]
  rw [frameBits_eq, frameBits_eq, hidentifier, hformat, hlength, hbytes]

end

/-- Settles O58: validity and bits both depend on the wire fields alone. -/
theorem encodingReadsOnlyWireFields : Obligations.EncodingReadsOnlyWireFields := by
  intro f g hext hdlc hid hpayload
  have hvalid := FrameRecord.valid_congr hext hdlc hid
  by_cases hf : f.Valid
  · rw [encodeFrame_of_valid hf, encodeFrame_of_valid (hvalid.1 hf), frameBits_congr hext hdlc hid hpayload]
  · rw [encodeFrame_of_not_valid hf, encodeFrame_of_not_valid (mt hvalid.2 hf)]

/-! ### Refused reads of `SEQ` -/

section
variable {s : State} {r : Refusal}

theorem encodeTxf_of_none (h : s.txf = none) : encodeTxf s = .error .noFrameInFlight := by
  rw [encodeTxf, h]

theorem encodeTxf_of_some {f : FrameRecord} (h : s.txf = some f) : encodeTxf s = encodeFrame f := by
  rw [encodeTxf, h]

/-- With `BUSY = 1` a read of `SEQ` needs `encode(TXF)` and passes its refusal on (R42, R104). -/
theorem exec_rdSeq_refused (hb : s.busy = true) (h : encodeTxf s = .error r) : exec .rdSeq s = .refused r := by
  have hview : seqView s = .error r := by rw [seqView, if_pos hb, h]
  simp only [exec, execRdSeq, hview]

end

/-- Settles O22: `encode(TXF)` is a refusal in both states. -/
theorem seqReadNeedsValidFrame : Obligations.SeqReadNeedsValidFrame := by
  refine fun s hb => ⟨fun hnone => ?_, fun f hsome hinvalid => ?_⟩
  · exact exec_rdSeq_refused hb (encodeTxf_of_none hnone)
  · exact exec_rdSeq_refused hb ((encodeTxf_of_some hsome).trans (encodeFrame_of_not_valid hinvalid))

end Sys2Proof.Machine
end

section
/-! PROOFS. The host commands (O5 to O10): what `CMD[3:0]` selects, START and STOP by run state, the edge of a command,
and the checks of ENQUEUE. -/

namespace Sys2Proof.Machine

/-! ### The opcode of a command word -/

/-- Bits [3:0] as a field and under a mask are one number (R66). -/
theorem opcodeField_toNat (v : Word) : (opcodeField v).toNat = (v &&& 0xF).toNat := by
  have hmask : v.toNat &&& 15 = v.toNat % 2 ^ 4 := Nat.and_two_pow_sub_one_eq_mod v.toNat 4
  simp [opcodeField, hmask]

theorem performCommand_of_opcode_zero (c : Config) {v : Word} (s : State) (h : opcodeField v = 0) :
    performCommand c v s = s := by
  rw [performCommand_eq, if_pos h]

theorem performCommand_of_opcode_start (c : Config) {v : Word} (s : State) (h : opcodeField v = 1) :
    performCommand c v s = startCommand s := by
  rw [performCommand_eq, h]
  rfl

theorem performCommand_of_opcode_stop (c : Config) {v : Word} (s : State) (h : opcodeField v = 2) :
    performCommand c v s = stopCommand s := by
  rw [performCommand_eq, h]
  rfl

/-- All twelve reserved opcodes behave alike (R90). -/
theorem performCommand_of_opcode_reserved (c : Config) {v : Word} (s : State) (h : 4 ≤ (opcodeField v).toNat) :
    performCommand c v s = reject .errBadCmd s := by
  have hne (op : BitVec 4) (hop : op.toNat < 4) : opcodeField v ≠ op := by
    rintro rfl
    omega
  rw [performCommand_eq, if_neg (hne 0 (by decide)), if_neg (hne 1 (by decide)), if_neg (hne 2 (by decide)),
    if_neg (hne 3 (by decide))]

/-- Settles O5: the masked bits are the opcode, and opcode 0 is NOP. -/
theorem nopChangesNothing : Obligations.NopChangesNothing := by
  refine fun s => ⟨rfl, fun v hv => ?_⟩
  have hop : opcodeField v = 0 := BitVec.eq_of_toNat_eq (by rw [opcodeField_toNat, hv]; rfl)
  exact congrArg Host.Outcome.next (performCommand_of_opcode_zero Config.params s hop)

/-- Settles O10: the masked bits are the opcode, and opcodes from 4 up are reserved. -/
theorem reservedOpcodesReportBadCommand : Obligations.ReservedOpcodesReportBadCommand := by
  refine fun s => ⟨rfl, fun op => rfl, fun op => rfl, fun v hv => ?_⟩
  rw [← opcodeField_toNat] at hv
  exact congrArg Host.Outcome.next (performCommand_of_opcode_reserved Config.params s hv)

section
variable {c : Config} {s : State}

/-! ### START and STOP by run state -/

theorem startCommand_of_stopped (h : s.runState = .stopped) :
    startCommand s = { s with runState := .running, result := .ok } := by
  rw [startCommand, h]

theorem startCommand_of_running (h : s.runState = .running) : startCommand s = { s with result := .ok } := by
  rw [startCommand, h]

theorem startCommand_of_stopping (h : s.runState = .stopping) : startCommand s = reject .errBusy s := by
  rw [startCommand, h]

/-- START of a block that is not STOPPING leaves it RUNNING, with OK (R87). -/
theorem startCommand_accepted (h : s.runState ≠ .stopping) :
    (startCommand s).runState = .running ∧ (startCommand s).result = .ok := by
  cases hr : s.runState with
  | stopped => simp [startCommand_of_stopped hr]
  | running => simp [startCommand_of_running hr, hr]
  | stopping => exact absurd hr h

theorem stopCommand_of_running (h : s.runState = .running) :
    stopCommand s = { s with runState := .stopping, result := .ok } := by
  rw [stopCommand, h]

theorem stopCommand_of_ne_running (h : s.runState ≠ .running) : stopCommand s = { s with result := .ok } := by
  unfold stopCommand
  split
  · contradiction
  · rfl
  · rfl

/-- STOP never refuses, and no block is RUNNING after it (R88). -/
theorem stopCommand_accepted (s : State) : (stopCommand s).runState ≠ .running ∧ (stopCommand s).result = .ok := by
  by_cases hr : s.runState = .running
  · simp [stopCommand_of_running hr]
  · simpa [stopCommand_of_ne_running hr] using hr

/-! ### The edge of a command -/

theorem seqStep_dispatches {f : FrameRecord} {rest : List FrameRecord} (hb : s.busy = false)
    (hr : s.runState = .running) (hq : s.queue = f :: rest) (hf : f.Valid) :
    seqStep c s = .next (dispatch f rest ((frameBits f).headD dominant) s) := by
  simp [seqStep, idleStep, hb, hr, hq, encodeFrame_of_valid hf]

/-- An idle block that is not RUNNING is STOPPED after the sequencer step (R110, R111). -/
theorem seqStep_of_idle_of_ne_running (hb : s.busy = false) (hr : s.runState ≠ .running) :
    seqStep c s = .next (finishStop s) := by
  cases hrs : s.runState with
  | running => exact absurd hrs hr
  | stopping => simp [seqStep, idleStep, hb, hrs]
  | stopped =>
    have hsame : finishStop s = s := by rw [finishStop, ← hrs]
    rw [hsame, seqStep_of_stopped_idle c hrs hb]

/-- The edge of a command: the command, the sequencer step, the increment of `TIME` (R107). -/
theorem step_of_commands {op : BitVec 4} (h : (currentPins s).commands op = true) :
    step s = andThen (seqStep Config.params (performCommand Config.params (currentPins s).wdata (beginEdge s)))
      fun t => .next (tick t) := by
  have hrst : (currentPins s).rst = false := by
    simp only [Pins.commands, Bool.and_eq_true, Bool.not_eq_true'] at h
    obtain ⟨⟨⟨⟨hrst, -⟩, -⟩, -⟩, -⟩ := h
    exact hrst
  obtain ⟨-, haccess⟩ := hostAccess_of_commands h (beginEdge s)
  rw [step, edge, edgeWith, hrst, if_neg Bool.false_ne_true, haccess, andThen_next]

theorem step_of_start (h : (currentPins s).commands 0x1 = true) :
    step s = andThen (seqStep Config.params (startCommand (beginEdge s))) fun t => .next (tick t) := by
  obtain ⟨hop, -⟩ := hostAccess_of_commands h s
  rw [step_of_commands h, performCommand_of_opcode_start _ _ hop]

theorem step_of_stop (h : (currentPins s).commands 0x2 = true) :
    step s = andThen (seqStep Config.params (stopCommand (beginEdge s))) fun t => .next (tick t) := by
  obtain ⟨hop, -⟩ := hostAccess_of_commands h s
  rw [step_of_commands h, performCommand_of_opcode_stop _ _ hop]

end

/-- Settles O6: START's three branches; after START the sequencer step of the edge finds a RUNNING block. -/
theorem startFollowsRunState : Obligations.StartFollowsRunState := by
  refine ⟨fun s => ⟨fun hr => ?stopped, fun hr => ?running, fun hr => ?stopping⟩, ?dispatched, ?fromReset⟩
  case stopped => exact congrArg Host.Outcome.next (startCommand_of_stopped hr)
  case running => exact congrArg Host.Outcome.next (startCommand_of_running hr)
  case stopping => exact congrArg Host.Outcome.next (startCommand_of_stopping hr)
  case dispatched =>
    intro s f rest hcmd hr hb hq hf
    obtain ⟨hrun, hok⟩ := startCommand_accepted (s := beginEdge s) hr
    have hbusy : (startCommand (beginEdge s)).busy = false := by simpa using hb
    have hqueue : (startCommand (beginEdge s)).queue = f :: rest := by simpa using hq
    rw [step_of_start hcmd, seqStep_dispatches hbusy hrun hqueue hf, andThen_next]
    exact ⟨_, rfl, hrun, hok, rfl, rfl, rfl⟩
  case fromReset =>
    have hdec : decodeTableWord 8 0x1 = some .start := by decide
    rw [presentedWordRunsItsInstruction State.reset 8 0x1 .start hdec]
    exact ⟨_, rfl, by decide, by decide⟩

/-- Settles O7: STOP's branches; after STOP the sequencer step of an idle block ends STOPPED. -/
theorem stopFollowsRunState : Obligations.StopFollowsRunState := by
  refine ⟨fun s => ⟨fun hr => ?running, fun hr => ?other⟩, fun s hcmd hb => ?edge⟩
  case running => exact congrArg Host.Outcome.next (stopCommand_of_running hr)
  case other => exact congrArg Host.Outcome.next (stopCommand_of_ne_running hr)
  case edge =>
    obtain ⟨hnotRunning, hok⟩ := stopCommand_accepted (beginEdge s)
    have hbusy : (stopCommand (beginEdge s)).busy = false := by simpa using hb
    rw [step_of_stop hcmd, seqStep_of_idle_of_ne_running hbusy hnotRunning, andThen_next]
    exact ⟨_, rfl, rfl, hok, by simp, by simp⟩

/-! ### ENQUEUE -/

section
variable {c : Config} {s : State}

theorem queueFull_eq_false {d : Depth} {len : Nat} (h : ∀ n h1 h2, d = .bounded n h1 h2 → len ≠ n) :
    queueFull d len = false := by
  cases d with
  | unbounded => rfl
  | bounded n h1 h2 => simpa [queueFull] using h n h1 h2 rfl

/-- An accepted ENQUEUE appends the record (R89). -/
theorem enqueueCommand_of_ok (h : enqueueCode c s = .ok) :
    enqueueCommand c s = { s with queue := s.queue ++ [makeRecord s], result := .ok } := by
  rw [enqueueCommand, h, if_pos rfl]

/-- A refused ENQUEUE reports its code and does nothing else (R127). -/
theorem enqueueCommand_of_ne_ok {code : ResultCode} (h : enqueueCode c s = code) (hne : code ≠ .ok) :
    enqueueCommand c s = { s with result := code } := by
  rw [enqueueCommand, h, if_neg hne]

/-- The first check (R89). -/
theorem enqueueCode_of_dlc (h : 8 < s.txDlc.toNat) : enqueueCode c s = .errDlc := if_pos h

/-- The second check, of a standard identifier (R89). -/
theorem enqueueCode_of_stdRange (hdlc : s.txDlc.toNat ≤ 8) (hext : s.txExt = false) (hid : 0x7FF < s.txId.toNat) :
    enqueueCode c s = .errStdRange := by
  rw [enqueueCode, if_neg (Nat.not_lt.2 hdlc), if_pos ⟨hext, hid⟩]

/-- The second check, of an extended identifier (R89). -/
theorem enqueueCode_of_extRange (hdlc : s.txDlc.toNat ≤ 8) (hext : s.txExt = true)
    (hid : 0x1FFFFFFF < s.txId.toNat) : enqueueCode c s = .errExtRange := by
  rw [enqueueCode, if_neg (Nat.not_lt.2 hdlc), if_neg (by simp [hext]), if_pos ⟨hext, hid⟩]

/-- The last check, of a valid staged frame (R89, R129). -/
theorem enqueueCode_of_qFull (hdlc : s.txDlc.toNat ≤ 8) (hstd : s.txExt = false → s.txId.toNat ≤ 0x7FF)
    (hext : s.txExt = true → s.txId.toNat ≤ 0x1FFFFFFF) (hfull : queueFull c.queueDepth s.queue.length = true) :
    enqueueCode c s = .errQFull := by
  rw [enqueueCode, if_neg (Nat.not_lt.2 hdlc), if_neg fun h => Nat.not_lt.2 (hstd h.1) h.2,
    if_neg fun h => Nat.not_lt.2 (hext h.1) h.2, if_pos hfull]

theorem enqueueCommand_of_valid (hdlc : s.txDlc.toNat ≤ 8) (hstd : s.txExt = false → s.txId.toNat ≤ 0x7FF)
    (hext : s.txExt = true → s.txId.toNat ≤ 0x1FFFFFFF)
    (hroom : ∀ n h1 h2, c.queueDepth = .bounded n h1 h2 → s.queue.length ≠ n) :
    enqueueCommand c s = { s with queue := s.queue ++ [makeRecord s], result := .ok } :=
  enqueueCommand_of_ok (enqueueCode_eq_ok_iff.2 ⟨hdlc, hstd, hext, queueFull_eq_false hroom⟩)

end

/-- Settles O8: each check passes; no depth is 0 (R7), so an empty queue has room. -/
theorem enqueueAppendsValidFrame : Obligations.EnqueueAppendsValidFrame := by
  refine ⟨fun c s => enqueueCommand_of_valid, fun s => rfl, fun s hdlc hstd hext hempty => ?_⟩
  have hroom : ∀ n h1 h2, Config.params.queueDepth = .bounded n h1 h2 → s.queue.length ≠ n := by
    intro n hpos _ _
    rw [hempty, List.length_nil]
    omega
  have hcmd := enqueueCommand_of_valid hdlc hstd hext hroom
  rw [hempty, List.nil_append] at hcmd
  exact congrArg Host.Outcome.next hcmd

/-- Settles O9, check by check. -/
theorem enqueueReportsFirstError : Obligations.EnqueueReportsFirstError := by
  refine fun c s => ⟨fun hdlc => ?dlc, fun hdlc hext hid => ?stdRange, fun hdlc hext hid => ?extRange,
    fun n h1 h2 hdlc hstd hext hdepth hlen => ?qFull⟩
  case dlc => exact enqueueCommand_of_ne_ok (enqueueCode_of_dlc hdlc) (by decide)
  case stdRange => exact enqueueCommand_of_ne_ok (enqueueCode_of_stdRange hdlc hext hid) (by decide)
  case extRange => exact enqueueCommand_of_ne_ok (enqueueCode_of_extRange hdlc hext hid) (by decide)
  case qFull =>
    have hfull : queueFull c.queueDepth s.queue.length = true := by simp [queueFull, hdepth, hlen]
    exact enqueueCommand_of_ne_ok (enqueueCode_of_qFull hdlc hstd hext hfull) (by decide)

end Sys2Proof.Machine
end

section
/-! PROOFS. Host accesses (O11, O13 to O17, O23 to O25): reads and writes by word offset, the register views, the write
of `CMD` and the write of `BIT_TIME`. -/

namespace Sys2Proof.Machine

/-! ### Accesses by word offset -/

/-- A word offset is one of the twenty registers (R30), or lies beyond them in an unmapped row (R105, R106). -/
theorem wordOffset_register_or_unmapped (addr : Byte) :
    (∃ k < 20, wordOffset addr = BitVec.ofNat 8 (4 * k)) ∨ 0x50 ≤ (wordOffset addr).toNat := by
  have hmod := wordOffset_toNat_mod addr
  rcases Nat.lt_or_ge (wordOffset addr).toNat 0x50 with hlt | hge
  · refine .inl ⟨(wordOffset addr).toNat / 4, by omega, BitVec.eq_of_toNat_eq ?_⟩
    rw [BitVec.toNat_ofNat]
    omega
  · exact .inr hge

/-- What R92 asks of a read at word offset `o`: `read_value(o)` on `rdata`, then the read side effect; no value, no
read. -/
def readAccess (o : Byte) (s : State) : StepOutcome :=
  match readValue o s with
  | .ok d => .next (readEffect o (returnData d s))
  | .error r => .refused r

theorem readAccess_unmapped {o : Byte} (s : State) (h : 0x50 ≤ o.toNat) : readAccess o s = .next (returnData 0 s) := by
  have hvalue : readValue o s = .ok 0 := by
    unfold readValue
    split
    case h_21 => rfl
    all_goals omega
  have heffect : readEffect o (returnData 0 s) = returnData 0 s := by
    unfold readEffect
    split
    · omega
    · rfl
  rw [readAccess, hvalue, ← heffect]

theorem writeEffect_unmapped {o : Byte} (c : Config) (v : Word) (s : State) (h : 0x50 ≤ o.toNat) :
    writeEffect c o v s = s := by
  unfold writeEffect
  split
  case h_8 => rfl
  all_goals omega

/-- The read row of each word offset does what R92 asks. -/
theorem exec_decodeRead_wordOffset (addr : Byte) (s : State) :
    exec (decodeRead (wordOffset addr)) s = readAccess (wordOffset addr) s := by
  rcases wordOffset_register_or_unmapped addr with ⟨k, hk, hoff⟩ | hge
  · rw [hoff]
    interval_cases k <;> rfl
  · rw [decodeRead_unmapped _ hge, readAccess_unmapped s hge]
    split_ifs <;> rfl

/-- The write row of each word offset does what R93 asks. -/
theorem exec_decodeWrite_wordOffset (addr : Byte) (v : Word) (s : State) :
    exec (decodeWrite (wordOffset addr) v) s = .next (writeEffect Config.params (wordOffset addr) v s) := by
  rcases wordOffset_register_or_unmapped addr with ⟨k, hk, hoff⟩ | hge
  · rw [hoff]
    interval_cases k <;> rfl
  · rw [decodeWrite_unmapped _ _ hge, writeEffect_unmapped _ _ _ hge]
    split_ifs <;> rfl

/-- Settles O23: register by register, then the unmapped rows. -/
theorem readReturnsReadValue : Obligations.ReadReturnsReadValue :=
  fun addr _ s => exec_decodeRead_wordOffset addr s

/-- Settles O24: register by register, then the unmapped rows. -/
theorem writePerformsWriteEffect : Obligations.WritePerformsWriteEffect :=
  fun addr v s => exec_decodeWrite_wordOffset addr v s

/-- Settles O14, row by row. -/
theorem cmdAndUnmappedReadZero : Obligations.CmdAndUnmappedReadZero :=
  fun _ _ => ⟨rfl, rfl, rfl, rfl⟩

/-- Settles O25, row by row. -/
theorem readOnlyWritesIgnored : Obligations.ReadOnlyWritesIgnored :=
  fun _ _ _ => ⟨rfl, rfl, rfl, rfl, rfl, rfl, rfl, rfl, rfl, rfl, rfl, rfl, rfl, rfl, rfl, rfl⟩

/-- Settles O16: each of the four meanings is one register read or write. -/
theorem bitTimeAndHistIndexStoreAndReturn : Obligations.BitTimeAndHistIndexStoreAndReturn :=
  fun _ _ => ⟨rfl, rfl, rfl, rfl⟩

/-! ### `TX_FMT`, `RESULT` and `STATUS` as a host reads them -/

/-- The fields of `TX_FMT` (R32). -/
theorem txFmtView_fields (s : State) :
    (txFmtView s).extractLsb' 0 4 = s.txDlc ∧ (txFmtView s).extractLsb' 4 4 = 0 ∧
      (txFmtView s).getLsbD 8 = s.txExt ∧ (txFmtView s).extractLsb' 9 23 = 0 := by
  have hall : ∀ (ext : Bit) (dlc : BitVec 4),
      let w : Word := bitWord ext <<< 8 ||| dlc.setWidth 32
      w.extractLsb' 0 4 = dlc ∧ w.extractLsb' 4 4 = 0 ∧ w.getLsbD 8 = ext ∧ w.extractLsb' 9 23 = 0 := by decide
  exact hall s.txExt s.txDlc

/-- `TX_FMT` reads back the bits of the mask 0x10F, which are `DLC` and `EXT` (R95). -/
theorem txFmtView_writeTxFmt (v : Word) (s : State) : txFmtView (writeTxFmt v s) = v &&& 0x0000010F := by
  have hmask : ∀ i < 32, (0x0000010F : Word).getLsbD i = (decide (i < 4) || decide (i = 8)) := by decide
  apply BitVec.eq_of_getLsbD_eq
  intro i hi
  rw [BitVec.getLsbD_and, hmask i hi]
  simp only [txFmtView, writeTxFmt_txExt, writeTxFmt_txDlc, bitWord, BitVec.getLsbD_or, BitVec.getLsbD_shiftLeft,
    BitVec.getLsbD_setWidth, BitVec.getLsbD_ofBool, BitVec.getLsbD_extractLsb']
  grind

/-- Settles O13: the registers by their own reads and writes, `TX_FMT` by its view. -/
theorem stagingRegistersStoreAndReturn : Obligations.StagingRegistersStoreAndReturn := by
  refine ⟨fun s v => ⟨rfl, rfl, rfl, ⟨txFmtView s, rfl, txFmtView_fields s⟩, rfl, rfl, rfl, rfl⟩, fun s t v h => ?_⟩
  cases h
  rw [← txFmtView_writeTxFmt v s]
  rfl

/-- `RESULT` reads the number of its code (R35). -/
theorem resultView_toNat (s : State) : (resultView s).toNat = s.result.code.toNat :=
  BitVec.toNat_setWidth_of_le (by decide)

/-- The fields of `STATUS` (R36). -/
theorem statusView_fields (s : State) :
    (statusView s).getLsbD 0 = s.level ∧ (statusView s).extractLsb' 1 2 = s.runState.code ∧
      (statusView s).getLsbD 3 = s.busy ∧ (statusView s).getLsbD 4 = s.histOvf ∧
      (statusView s).extractLsb' 5 27 = 0 := by
  have hall : ∀ (ovf busy level : Bit) (code : BitVec 2),
      let w : Word := bitWord ovf <<< 4 ||| bitWord busy <<< 3 ||| code.setWidth 32 <<< 1 ||| bitWord level
      w.getLsbD 0 = level ∧ w.extractLsb' 1 2 = code ∧ w.getLsbD 3 = busy ∧ w.getLsbD 4 = ovf ∧
        w.extractLsb' 5 27 = 0 := by decide
  exact hall s.histOvf s.busy s.level s.runState.code

/-- Settles O15: the fields of the two views, and the numbers of R68 and R23. -/
theorem resultAndStatusReads : Obligations.ResultAndStatusReads := by
  intro s
  obtain ⟨hlevel, hrun, hbusy, hovf, hzero⟩ := statusView_fields s
  refine ⟨resultView s, statusView s, rfl, ?result, rfl, hlevel, ?runState, hbusy, hovf, hzero⟩
  case result =>
    rw [resultView_toNat]
    cases s.result <;> rfl
  case runState =>
    rw [hrun]
    cases s.runState <;> rfl

/-! ### The write of `CMD` -/

theorem performCommand_of_opcode_enqueue (c : Config) {v : Word} (s : State) (h : opcodeField v = 3) :
    performCommand c v s = enqueueCommand c s := by
  rw [performCommand_eq, h]
  rfl

theorem opcodeField_of_masked {v m : Word} (h : v &&& 0xF = m) : opcodeField v = opcodeField m := by
  rw [← h, opcodeField_and_mask]

/-- A write of `CMD` is the command of R97, at the block's parameters. -/
theorem exec_wrCmd (v : Word) (s : State) : exec (.wrCmd v) s = .next (performCommand Config.params v s) := rfl

/-- Settles O11: the masked bits are the opcode, and the opcode selects the command. -/
theorem cmdWritePerformsSelectedCommand : Obligations.CmdWritePerformsSelectedCommand := by
  intro v s
  simp only [exec_wrCmd, ← opcodeField_toNat]
  refine ⟨fun h => ?nop, fun h => ?start, fun h => ?stop, fun h => ?enqueue, fun hmin _ => ?low, fun hmin => ?high,
    (exec_decodeCommand v s).symm, _, rfl⟩
  case nop => rw [performCommand_of_opcode_zero _ s (opcodeField_of_masked h)]; rfl
  case start => rw [performCommand_of_opcode_start _ s (opcodeField_of_masked h)]; rfl
  case stop => rw [performCommand_of_opcode_stop _ s (opcodeField_of_masked h)]; rfl
  case enqueue => rw [performCommand_of_opcode_enqueue _ s (opcodeField_of_masked h)]; rfl
  case low => rw [performCommand_of_opcode_reserved _ s hmin]; rfl
  case high => rw [performCommand_of_opcode_reserved _ s (by omega)]; rfl

/-! ### The write of `BIT_TIME` -/

/-- `PERIOD = max(1, BIT_TIME)` (R112). -/
theorem bitPeriod_toNat (w : Word) : (bitPeriod w).toNat = max 1 w.toNat := by
  unfold bitPeriod
  split
  · next h => rw [h]; rfl
  · bv_omega

/-- Only a dispatch changes `PERIOD`, so it is kept while a frame is in flight (R112). -/
theorem seqStep_period_of_busy {c : Config} {s t : State} (hb : s.busy = true) (h : seqStep c s = .next t) :
    t.period = s.period := by
  rcases seqStep_cases h with ⟨-, -, rfl⟩ | ⟨-, -, f, bits, b, -, -, -, rfl⟩ | ⟨-, -, f, bits, -, -, -, rfl⟩ |
    ⟨-, -, rfl⟩ | ⟨hidle, -⟩ | ⟨-, -, rfl⟩
  case inr.inr.inr.inr.inl => simp [hb] at hidle
  all_goals rfl

/-- Pins that write `BIT_TIME` perform that write (R93, R99). -/
theorem hostAccess_of_writesBitTime {p : Pins} (h : p.writesBitTime = true) (s : State) :
    p.rst = false ∧ hostAccess p s = .next (writeBitTime p.wdata s) := by
  simp only [Pins.writesBitTime, Bool.and_eq_true, Bool.not_eq_true', beq_iff_eq] at h
  obtain ⟨⟨⟨hrst, hreq⟩, hwe⟩, hoff⟩ := h
  have hdec : decodeAccess p.access = .wrBitTime p.wdata :=
    (if_pos hwe).trans (congrArg (decodeWrite · p.wdata) hoff)
  exact ⟨hrst, by rw [hostAccess, if_pos hreq, hdec]; rfl⟩

/-- The edge of a `BIT_TIME` write: the sequencer step finds the new value (R107, R148). -/
theorem step_of_writesBitTime {s : State} (h : (currentPins s).writesBitTime = true) :
    step s = andThen (seqStep Config.params (writeBitTime (currentPins s).wdata (beginEdge s)))
      fun t => .next (tick t) := by
  obtain ⟨hrst, haccess⟩ := hostAccess_of_writesBitTime h (beginEdge s)
  rw [step, edge, edgeWith, hrst, if_neg Bool.false_ne_true, haccess, andThen_next]

/-- Settles O17: the sequencer step of the edge keeps `PERIOD` while busy, and a dispatch takes it from `BIT_TIME`. -/
theorem bitTimeTakenAtDispatch : Obligations.BitTimeTakenAtDispatch := by
  refine ⟨fun s t hpins hb hstep => ?inFlight, fun s f rest hpins hb hr hq hf => ?dispatched⟩
  case inFlight =>
    rw [step_of_writesBitTime hpins] at hstep
    obtain ⟨u, hseq, hu⟩ := andThen_eq_next.1 hstep
    cases hu
    obtain ⟨-, -, -, -, -, -, hbitTime, -⟩ := seqStep_frame hseq
    have hperiod := seqStep_period_of_busy (by simpa using hb) hseq
    exact ⟨hbitTime, hperiod⟩
  case dispatched =>
    have hbusy : (writeBitTime (currentPins s).wdata (beginEdge s)).busy = false := by simpa using hb
    rw [step_of_writesBitTime hpins, seqStep_dispatches hbusy hr hq hf, andThen_next]
    exact ⟨_, rfl, rfl, rfl, rfl, bitPeriod_toNat _, rfl⟩

end Sys2Proof.Machine
end

section
/-! PROOFS. The branches of the sequencer step (O30 to O35) and the parts of an edge (O28). -/

namespace Sys2Proof.Machine

/-! ### The sequencer step, branch by branch -/

section
variable {c : Config} {s : State} {f : FrameRecord} {bits : List Bit}

/-- Bit hold (R113). -/
theorem seqStep_of_bitHold (hb : s.busy = true) (hc : 1 < s.bitCnt.toNat) : seqStep c s = .next (bitHold s) := by
  rw [seqStep, if_pos hb, busyStep, if_pos hc]

/-- A bit boundary is decided by `encode(TXF)` (R108). -/
theorem seqStep_of_bitBoundary (hb : s.busy = true) (hc : s.bitCnt.toNat ≤ 1) (htxf : s.txf = some f) :
    seqStep c s = bitBoundary c f s := by
  rw [seqStep, if_pos hb, busyStep, if_neg (Nat.not_lt.2 hc), htxf]

/-- Bit advance (R114). -/
theorem seqStep_of_bitAdvance {b : Bit} (hb : s.busy = true) (hc : s.bitCnt.toNat ≤ 1) (htxf : s.txf = some f)
    (henc : encodeFrame f = .ok bits) (hbit : bits[s.bitPos.toNat + 1]? = some b) :
    seqStep c s = .next (bitAdvance b s) := by
  simp only [seqStep_of_bitBoundary hb hc htxf, bitBoundary, henc, hbit]

/-- Completion (R115). -/
theorem seqStep_of_completion (hb : s.busy = true) (hc : s.bitCnt.toNat ≤ 1) (htxf : s.txf = some f)
    (henc : encodeFrame f = .ok bits) (hlast : bits.length ≤ s.bitPos.toNat + 1) :
    seqStep c s = .next (complete c f s) := by
  simp only [seqStep_of_bitBoundary hb hc htxf, bitBoundary, henc, List.getElem?_eq_none hlast]

/-- Stop taking effect (R110). -/
theorem seqStep_of_stopping_idle (hb : s.busy = false) (hr : s.runState = .stopping) :
    seqStep c s = .next (finishStop s) :=
  seqStep_of_idle_of_ne_running hb (by simp [hr])

/-- Idle wait of a running block (R111). -/
theorem seqStep_of_empty_queue (hb : s.busy = false) (hr : s.runState = .running) (hq : s.queue = []) :
    seqStep c s = .next s := by
  simp [seqStep, idleStep, hb, hr, hq]

/-- `BITPOS` has 7 bits, and a position inside an encoding does not wrap (R63, R114). -/
theorem bitPos_add_one_toNat {pos : BitVec 7} (henc : encodeFrame f = .ok bits) (h : pos.toNat + 1 < bits.length) :
    (pos + 1).toNat = pos.toNat + 1 := by
  obtain ⟨-, hmax⟩ := encodeFrame_length_bounds henc
  bv_omega

/-- The last bit of every encoding is RECESSIVE (R81). -/
theorem encodeFrame_getElem?_last (henc : encodeFrame f = .ok bits) {n : Nat} (hn : n + 1 = bits.length) :
    bits[n]? = some recessive := by
  obtain ⟨-, rfl⟩ := encodeFrame_ok_iff.1 henc
  obtain ⟨front, hfront⟩ := frameBits_trailer f
  rw [hfront, List.length_append, List.length_replicate] at hn
  rw [hfront, List.getElem?_append_right (by omega), List.getElem?_replicate_of_lt (by omega)]

end

/-- Settles O30: the branch of R113. -/
theorem bitHoldDecrementsBitCount : Obligations.BitHoldDecrementsBitCount := by
  intro c s hb hc
  refine ⟨bitHold s, seqStep_of_bitHold hb hc, ?_, rfl⟩
  rw [bitHold_bitCnt]
  bv_omega

/-- Settles O31: the branch of R114, inside the encoding. -/
theorem bitAdvanceShowsNextBit : Obligations.BitAdvanceShowsNextBit := by
  intro c s f bits hb hc htxf henc hlt
  exact ⟨bitAdvance bits[s.bitPos.toNat + 1] s,
    seqStep_of_bitAdvance hb hc.le htxf henc (List.getElem?_eq_getElem hlt), bitPos_add_one_toNat henc hlt, rfl⟩

/-- Settles O32: the branch of R115 by the room in the history; where R26 holds, `LEVEL` is the last bit already. -/
theorem completionReturnsToRecessive : Obligations.CompletionReturnsToRecessive := by
  intro c s f bits hb hc htxf henc hlast
  have hseq : seqStep c s = .next (complete c f s) := seqStep_of_completion hb hc.le htxf henc hlast.ge
  refine ⟨fun hroom => ?room, fun n h1 h2 hdepth hfull => ?full, fun hgood => ?level⟩
  case room => rw [hseq, complete, hroom]; rfl
  case full =>
    have hroom : histHasRoom c.histDepth s.hist.length = false := by simpa [histHasRoom, hdepth] using hfull
    rw [hseq, complete, hroom]
    rfl
  case level =>
    obtain ⟨g, gbits, htxf', henc', hlevel, -, -⟩ := hgood.inFlight hb
    cases htxf.symm.trans htxf'
    cases henc.symm.trans henc'
    exact Option.some.inj (hlevel.symm.trans (encodeFrame_getElem?_last henc hlast))

/-- Settles O33: the branch of R109; every frame starts DOMINANT (R74). -/
theorem dispatchTakesQueueHead : Obligations.DispatchTakesQueueHead := by
  intro c s f rest hb hr hq hf
  refine ⟨bitPeriod s.bitTime, bitPeriod_toNat s.bitTime, ?_⟩
  rw [seqStep_dispatches hb hr hq hf, frameBits_head]
  rfl

/-- Settles O34: the branch of R110. -/
theorem stopTakesEffectWhenIdle : Obligations.StopTakesEffectWhenIdle :=
  fun _ _ => seqStep_of_stopping_idle

/-- Settles O35: the two conditions of R111. -/
theorem idleWaitChangesNothing : Obligations.IdleWaitChangesNothing := by
  rintro c s hb (hr | ⟨hr, hq⟩)
  · exact seqStep_of_stopped_idle c hr hb
  · exact seqStep_of_empty_queue hb hr hq

/-! ### The parts of an edge -/

/-- Settles O28: the parts of `edgeWith`, in R107's order. -/
theorem edgeRunsDecodedInstructionThenSequencer : Obligations.EdgeRunsDecodedInstructionThenSequencer :=
  fun _ => rfl

end Sys2Proof.Machine
end

section
/-! PROOFS. Every edge of a good state answers a next state (O42, O43), and runs cut into edges (O36). -/

namespace Sys2Proof.Machine

/-! ### Runs, edge by edge -/

section
variable {s t : State}

@[simp] theorem run_zero (s : State) : run 0 s = .next s := rfl

theorem run_succ_of_step {k : Nat} (h : step s = .next t) : run (k + 1) s = run k t := by
  rw [run_succ, h, andThen_next]

theorem run_succ_eq_next {k : Nat} {u : State} (h : run (k + 1) s = .next u) :
    ∃ t, step s = .next t ∧ run k t = .next u := by
  rw [run_succ] at h
  exact andThen_eq_next.1 h

/-- A run goes on where an earlier run has ended. -/
theorem run_add {m k : Nat} (h : run m s = .next t) : run (m + k) s = run k t := by
  induction m generalizing s with
  | zero =>
    cases h
    rw [Nat.zero_add]
  | succ m ih =>
    obtain ⟨u, hstep, hrun⟩ := run_succ_eq_next h
    rw [Nat.add_right_comm, run_succ_of_step hstep, ih hrun]

/-- A run takes one entry of the schedule per edge (log 1). -/
theorem run_inputs {k : Nat} (h : run k s = .next t) : t.inputs = s.inputs.drop k := by
  induction k generalizing s with
  | zero => cases h; rfl
  | succ k ih =>
    obtain ⟨u, hstep, hrun⟩ := run_succ_eq_next h
    rw [ih hrun, step_inputs hstep, List.drop_tail]

/-- What holds of the next `m + k` entries of the schedule holds, `m` edges later, of the next `k`. -/
theorem forall_mem_take_after_run {P : Pins → Prop} {m k : Nat} (h : ∀ p ∈ s.inputs.take (m + k), P p)
    (hrun : run m s = .next t) : ∀ p ∈ t.inputs.take k, P p := by
  intro p hp
  rw [run_inputs hrun, List.take_drop] at hp
  exact h p (List.mem_of_mem_drop hp)

theorem forall_mem_take_mono {P : Pins → Prop} {m k : Nat} (hmk : m ≤ k) (h : ∀ p ∈ s.inputs.take k, P p) :
    ∀ p ∈ s.inputs.take m, P p :=
  fun p hp => h p ((List.take_subset_take_left _ hmk) hp)

/-- An edge without reset, put together from its parts (R107). -/
theorem step_of_parts {s1 s2 : State} (hrst : (currentPins s).rst = false)
    (haccess : hostAccess (currentPins s) (beginEdge s) = .next s1) (hseq : seqStep Config.params s1 = .next s2) :
    step s = .next (tick s2) := by
  rw [step, edge, edgeWith, hrst, if_neg Bool.false_ne_true, haccess, andThen_next, hseq, andThen_next]

/-! ### Progress -/

/-- With a valid frame in flight every access completes, the read of `SEQ` too (R42, R46). -/
theorem hostAccess_completes_of_inFlight {p : Pins} {f : FrameRecord} {bits : List Bit} (hb : s.busy = true)
    (htxf : s.txf = some f) (henc : encodeFrame f = .ok bits) : ∃ t, hostAccess p s = .next t := by
  unfold hostAccess
  split
  · exact exec_completes fun _ => ⟨_, seqView_of_inFlight hb htxf henc⟩
  · exact ⟨s, rfl⟩

theorem State.Good.hostAccess_completes {c : Config} (h : s.Good c) (p : Pins) : ∃ t, hostAccess p s = .next t := by
  cases hb : s.busy with
  | true =>
    obtain ⟨f, bits, htxf, henc, -⟩ := h.inFlight hb
    exact hostAccess_completes_of_inFlight hb htxf henc
  | false => exact hostAccess_completes_of_idle hb

/-- The sequencer step is refused nothing: the frame in flight and the queued frames are valid (R26, R84). -/
theorem State.Good.seqStep_completes {c : Config} (h : s.Good c) : ∃ t, seqStep c s = .next t := by
  cases hb : s.busy with
  | true =>
    obtain ⟨f, bits, htxf, henc, -⟩ := h.inFlight hb
    rcases Nat.lt_or_ge 1 s.bitCnt.toNat with hc | hc
    · exact ⟨_, seqStep_of_bitHold hb hc⟩
    rcases Nat.lt_or_ge (s.bitPos.toNat + 1) bits.length with hpos | hpos
    · exact ⟨_, seqStep_of_bitAdvance hb hc htxf henc (List.getElem?_eq_getElem hpos)⟩
    · exact ⟨_, seqStep_of_completion hb hc htxf henc hpos⟩
  | false =>
    by_cases hr : s.runState = .running
    · cases hq : s.queue with
      | nil => exact ⟨_, seqStep_of_empty_queue hb hr hq⟩
      | cons f rest =>
        obtain ⟨hvalid, -⟩ := h.records f (mem_pipeline.2 (.inr (.inr (by simp [hq]))))
        exact ⟨_, seqStep_dispatches hb hr hq hvalid⟩
    · exact ⟨_, seqStep_of_idle_of_ne_running hb hr⟩

/-- No edge of a good state is refused (R125, R130). -/
theorem State.Good.step_completes (h : s.Good Config.params) : ∃ t, step s = .next t := by
  cases hrst : (currentPins s).rst with
  | true => exact ⟨resetEvent Config.params (beginEdge s), by rw [step, edge, edgeWith, if_pos hrst]⟩
  | false =>
    obtain ⟨s1, haccess⟩ := h.after_beginEdge.hostAccess_completes (currentPins s)
    obtain ⟨s2, hseq⟩ := (h.after_beginEdge.after_hostAccess haccess).seqStep_completes
    exact ⟨tick s2, step_of_parts hrst haccess hseq⟩

/-- Progress and preservation over a run: it answers a next state, and a good one. -/
theorem State.Good.run_completes (h : s.Good Config.params) (k : Nat) :
    ∃ t, run k s = .next t ∧ t.Good Config.params := by
  induction k generalizing s with
  | zero => exact ⟨s, rfl, h⟩
  | succ k ih =>
    obtain ⟨u, hstep⟩ := h.step_completes
    rw [run_succ_of_step hstep]
    exact ih (everyStepKeepsGoodState s u h hstep)

theorem State.Good.after_run {k : Nat} (h : s.Good Config.params) (hrun : run k s = .next t) :
    t.Good Config.params := by
  obtain ⟨u, hrun', hgood⟩ := h.run_completes k
  cases hrun.symm.trans hrun'
  exact hgood

end

/-- Settles O42: the reset state is good, and good states make progress and stay good. -/
theorem everyScheduleRunsFromReset : Obligations.EveryScheduleRunsFromReset :=
  fun pins k => (resetStateIsGood pins).run_completes k

/-- Settles O43: every state reached is good, and R26 (a) is the claim. -/
theorem idleBusIsRecessive : Obligations.IdleBusIsRecessive := by
  intro pins k t hrun hb
  obtain ⟨hlevel, -⟩ := ((resetStateIsGood pins).after_run hrun).idle hb
  exact hlevel

/-! ### `TIME` -/

/-- One edge without reset is one unit of `TIME` (R118). -/
theorem step_time {s t : State} (hrst : (currentPins s).rst = false) (h : step s = .next t) : t.time = s.time + 1 := by
  rcases step_cases h with ⟨hrst', -⟩ | ⟨-, s1, s2, haccess, hseq, rfl⟩
  · simp [hrst] at hrst'
  · obtain ⟨-, -, -, -, -, -, -, -, htime1, -⟩ := hostAccess_frame haccess
    obtain ⟨-, -, -, -, -, -, -, -, htime2, -⟩ := seqStep_frame hseq
    rw [tick_time, htime2, htime1, beginEdge_time]

theorem run_time {k : Nat} {s t : State} (hnr : NoReset k s) (hrun : run k s = .next t) :
    t.time = s.time + BitVec.ofNat 64 k := by
  induction k generalizing s with
  | zero => cases hrun; simp
  | succ k ih =>
    obtain ⟨u, hstep, hrun⟩ := run_succ_eq_next hrun
    have hfirst := step_time (currentPins_rst_of_noReset hnr) hstep
    rw [ih (hnr.after_step hstep) hrun, hfirst, Nat.add_comm k 1, BitVec.ofNat_add, BitVec.add_assoc]
    rfl

/-- Settles O36: the count over a run, from `TIME = 0` at reset. -/
theorem timeCountsEdges : Obligations.TimeCountsEdges := by
  refine ⟨fun k s t => run_time, fun k pins t hnr hrun => ?fromReset, fun s t hrst hstep => ?resetEdge⟩
  case fromReset =>
    rw [run_time hnr hrun]
    change (0#64 + BitVec.ofNat 64 k).toNat = k % 2 ^ 64
    rw [BitVec.zero_add, BitVec.toNat_ofNat]
  case resetEdge =>
    rcases step_cases hstep with ⟨-, rfl⟩ | ⟨hrst', -⟩
    · rfl
    · simp [hrst] at hrst'

end Sys2Proof.Machine
end

section
/-! PROOFS. What an edge does to the frames held (O44), their order (O49) and their number (O50). -/

namespace Sys2Proof.Machine

/-! ### The frames held, edge by edge -/

section
variable {s t : State}

/-- The coming edge is a completion exactly where R115's condition holds. -/
theorem completesNow_iff (hrst : (currentPins s).rst = false) :
    completesNow s = true ↔ s.busy = true ∧ s.bitCnt.toNat ≤ 1 ∧ ∃ f bits, s.txf = some f ∧
      encodeFrame f = .ok bits ∧ bits.length ≤ s.bitPos.toNat + 1 := by
  unfold completesNow
  cases htxf : s.txf with
  | none => simp [encodeTxf_of_none htxf]
  | some f =>
    rw [encodeTxf_of_some htxf]
    cases henc : encodeFrame f with
    | error r => simp [henc]
    | ok bits => simp [hrst, henc, and_assoc]

theorem completesNow_of_idle (hb : s.busy = false) : completesNow s = false := by
  simp [completesNow, hb]

/-- The queue that the sequencer step of the coming edge finds, if that edge does not reset. -/
def offeredQueue (s : State) : List FrameRecord := s.queue ++ (acceptedNow s).toList

/-- What an edge without reset does to the frames held, the history and its overflow flag (R109 to R115). -/
inductive EdgeEffect (s t : State) : Prop where
  | goesOn (busy : s.busy = true) (goes : completesNow s = false) (busy' : t.busy = true) (txf : t.txf = s.txf)
      (period : t.period = s.period) (bitPos : s.bitPos.toNat ≤ t.bitPos.toNat) (hist : t.hist = s.hist)
      (histOvf : t.histOvf = s.histOvf) (queue : t.queue = offeredQueue s)
  | completes (f : FrameRecord) (busy : s.busy = true) (ends : completesNow s = true) (txf : s.txf = some f)
      (busy' : t.busy = false) (txf' : t.txf = none) (period : t.period = s.period)
      (hist : t.hist = if histHasRoom Config.params.histDepth s.hist.length then s.hist ++ [f] else s.hist)
      (histOvf : t.histOvf = if histHasRoom Config.params.histDepth s.hist.length then s.histOvf else true)
      (queue : t.queue = offeredQueue s)
  | waits (busy : s.busy = false) (busy' : t.busy = false) (txf : t.txf = s.txf) (hist : t.hist = s.hist)
      (histOvf : t.histOvf = s.histOvf) (queue : t.queue = offeredQueue s)
  | dispatches (f : FrameRecord) (busy : s.busy = false) (busy' : t.busy = true) (txf : t.txf = some f)
      (hist : t.hist = s.hist) (histOvf : t.histOvf = s.histOvf) (queue : offeredQueue s = f :: t.queue)

/-- R115's condition, in the state that the host access leaves to the sequencer step (R117). -/
theorem completesNow_iff_after_hostAccess {s1 : State} (hrst : (currentPins s).rst = false)
    (haccess : hostAccess (currentPins s) (beginEdge s) = .next s1) :
    completesNow s = true ↔ s1.busy = true ∧ s1.bitCnt.toNat ≤ 1 ∧ ∃ f bits, s1.txf = some f ∧
      encodeFrame f = .ok bits ∧ bits.length ≤ s1.bitPos.toNat + 1 := by
  obtain ⟨-, hbusy, htxf, hpos, hcnt, -⟩ := hostAccess_frame haccess
  rw [hbusy, htxf, hpos, hcnt]
  exact completesNow_iff hrst

/-- Branch by branch of the sequencer step: the access before it changes nothing that decides the branch but the
queue and the run state (R117). -/
theorem step_edgeEffect (hrst : (currentPins s).rst = false) (h : step s = .next t) : EdgeEffect s t := by
  rcases step_cases h with ⟨hrst', -⟩ | ⟨-, s1, s2, haccess, hseq, rfl⟩
  · simp [hrst] at hrst'
  have hends := completesNow_iff_after_hostAccess hrst haccess
  have hqueue : s1.queue = offeredQueue s := hostAccess_queue hrst haccess
  obtain ⟨-, hbusy, htxf, hpos, -, hperiod, hhist, hovf, -, -⟩ := hostAccess_frame haccess
  simp only [beginEdge_busy, beginEdge_txf, beginEdge_bitPos, beginEdge_period, beginEdge_hist,
    beginEdge_histOvf] at hbusy htxf hpos hperiod hhist hovf
  rcases seqStep_cases hseq with ⟨hb, hc, rfl⟩ | ⟨hb, -, f, bits, b, hf, henc, hbit, rfl⟩ |
    ⟨hb, hc, f, bits, hf, henc, hlast, rfl⟩ | ⟨hb, -, rfl⟩ | ⟨hb, -, f, rest, bits, hq, -, rfl⟩ | ⟨hb, -, rfl⟩
  · -- bit hold (R113)
    have hgoes : completesNow s = false := Bool.eq_false_iff.2 fun he => by
      obtain ⟨-, hc', -⟩ := hends.1 he
      omega
    exact .goesOn (hbusy ▸ hb) hgoes hb htxf hperiod (by simp [hpos]) hhist hovf hqueue
  · -- bit advance (R114)
    have hlt : s1.bitPos.toNat + 1 < bits.length := (List.getElem?_eq_some_iff.1 hbit).1
    have hgoes : completesNow s = false := Bool.eq_false_iff.2 fun he => by
      obtain ⟨-, -, g, gbits, hg, hgenc, hlast⟩ := hends.1 he
      cases hf.symm.trans hg
      cases henc.symm.trans hgenc
      omega
    have hnext : s.bitPos.toNat ≤ (bitAdvance b s1).bitPos.toNat := by
      rw [bitAdvance_bitPos, bitPos_add_one_toNat henc hlt, hpos]
      omega
    exact .goesOn (hbusy ▸ hb) hgoes hb htxf hperiod hnext hhist hovf hqueue
  · -- completion (R115)
    refine .completes f (hbusy ▸ hb) (hends.2 ⟨hb, hc, f, bits, hf, henc, hlast⟩) (htxf ▸ hf) rfl rfl hperiod ?_ ?_
      hqueue
    · rw [tick_hist, complete_hist, hhist]
    · rw [tick_histOvf, complete_histOvf, hhist, hovf]
  · exact .waits (hbusy ▸ hb) hb htxf hhist hovf hqueue
  · exact .dispatches f (hbusy ▸ hb) rfl rfl hhist hovf (hqueue ▸ hq)
  · exact .waits (hbusy ▸ hb) hb htxf hhist hovf hqueue

end

/-- Settles O44: with a frame in flight an edge goes on or completes. -/
theorem frameInFlightIsNotCancelled : Obligations.FrameInFlightIsNotCancelled := by
  intro s t f hb htxf hrst hstep
  cases step_edgeEffect hrst hstep with
  | goesOn _ hgoes hb' htxf' hperiod hpos hhist _ _ =>
    exact ⟨hperiod, .inl ⟨hb', htxf'.trans htxf, hpos, hgoes, hhist⟩⟩
  | completes g _ hends hg hb' htxf' hperiod hhist _ _ =>
    cases htxf.symm.trans hg
    exact ⟨hperiod, .inr ⟨hb', htxf', hends, hhist⟩⟩
  | waits hidle _ _ _ _ _ => simp [hb] at hidle
  | dispatches _ hidle _ _ _ _ _ => simp [hb] at hidle

/-! ### Order -/

section
variable {s t : State}

theorem discardsNow_of_goes (h : completesNow s = false) : discardsNow s = false := by
  simp [discardsNow, h]

/-- At a completion the frame is discarded exactly when the history has no room (R22). -/
theorem discardsNow_of_ends (h : completesNow s = true) :
    discardsNow s = !histHasRoom Config.params.histDepth s.hist.length := by
  simp [discardsNow, h]

theorem discardedOver_succ {k : Nat} (h : step s = .next t) :
    discardedOver (k + 1) s = (discardsNow s).toNat + discardedOver k t := by
  simp [discardedOver, h, Bool.toNat, Bool.cond_eq_ite]

/-- An edge that discards nothing keeps the records held in their order and adds the one accepted (R122). -/
theorem step_pipeline (hgood : s.Good Config.params) (hrst : (currentPins s).rst = false) (h : step s = .next t)
    (hkeeps : discardsNow s = false) : pipeline t = pipeline s ++ (acceptedNow s).toList := by
  cases step_edgeEffect hrst h with
  | goesOn _ _ _ htxf _ _ hhist _ hqueue => simp [pipeline, htxf, hhist, hqueue, offeredQueue]
  | completes f _ hends htxf _ htxf' _ hhist _ hqueue =>
    have hroom : histHasRoom Config.params.histDepth s.hist.length = true := by
      simpa [discardsNow_of_ends hends] using hkeeps
    simp [pipeline, htxf, htxf', hhist, hroom, hqueue, offeredQueue]
  | waits _ _ htxf hhist _ hqueue => simp [pipeline, htxf, hhist, hqueue, offeredQueue]
  | dispatches f hidle _ htxf hhist _ hqueue =>
    obtain ⟨-, hnone, -, -⟩ := hgood.idle hidle
    have hshift : f :: t.queue = s.queue ++ (acceptedNow s).toList := hqueue.symm
    simp [pipeline, htxf, hhist, hnone, hshift]

end

/-- Settles O49, by induction over the edges of the run. -/
theorem framesKeepTheirOrder : Obligations.FramesKeepTheirOrder := by
  intro k
  induction k with
  | zero =>
    intro s t _ _ _ hrun
    cases hrun
    simp [acceptedOver]
  | succ k ih =>
    intro s u hgood hnr hkeeps hrun
    obtain ⟨t, hstep, hrun⟩ := run_succ_eq_next hrun
    rw [discardedOver_succ hstep] at hkeeps
    have hnow : discardsNow s = false := by
      by_contra hdiscards
      simp [hdiscards] at hkeeps
    have hfirst := step_pipeline hgood (currentPins_rst_of_noReset hnr) hstep hnow
    have hlater := ih t u (everyStepKeepsGoodState s t hgood hstep) (hnr.after_step hstep) (by omega) hrun
    rw [hlater, hfirst, acceptedOver_succ hstep, List.append_assoc]

/-! ### Number -/

section
variable {s t : State}

/-- The frames held: queued, in flight, in history (R124). -/
def framesHeld (s : State) : Nat := s.queue.length + (if s.busy then 1 else 0) + s.hist.length

theorem framesHeld_of_busy (hb : s.busy = true) : framesHeld s = s.queue.length + 1 + s.hist.length := by
  rw [framesHeld, if_pos hb]

theorem framesHeld_of_idle (hb : s.busy = false) : framesHeld s = s.queue.length + s.hist.length := by
  rw [framesHeld, hb, if_neg Bool.false_ne_true, Nat.add_zero]

theorem offeredQueue_length (s : State) :
    (offeredQueue s).length = s.queue.length + (acceptedNow s).toList.length :=
  List.length_append

/-- At an edge a frame held stays held or is discarded, and a frame accepted is held (R124). -/
theorem step_framesHeld (hrst : (currentPins s).rst = false) (h : step s = .next t) :
    framesHeld s + (acceptedNow s).toList.length = framesHeld t + (discardsNow s).toNat := by
  have hoffered := offeredQueue_length s
  cases step_edgeEffect hrst h with
  | goesOn hb hgoes hb' _ _ _ hhist _ hqueue =>
    rw [framesHeld_of_busy hb, framesHeld_of_busy hb', discardsNow_of_goes hgoes, hqueue, hhist, Bool.toNat_false]
    omega
  | completes f hb hends _ hb' _ _ hhist _ hqueue =>
    rw [framesHeld_of_busy hb, framesHeld_of_idle hb', discardsNow_of_ends hends, hqueue, hhist]
    cases histHasRoom Config.params.histDepth s.hist.length with
    | true => rw [if_pos rfl, List.length_append, List.length_singleton, Bool.not_true, Bool.toNat_false]; omega
    | false => rw [if_neg Bool.false_ne_true, Bool.not_false, Bool.toNat_true]; omega
  | waits hb hb' _ hhist _ hqueue =>
    rw [framesHeld_of_idle hb, framesHeld_of_idle hb', discardsNow_of_goes (completesNow_of_idle hb), hqueue, hhist,
      Bool.toNat_false]
    omega
  | dispatches f hb hb' _ hhist _ hqueue =>
    rw [hqueue, List.length_cons] at hoffered
    rw [framesHeld_of_idle hb, framesHeld_of_busy hb', discardsNow_of_goes (completesNow_of_idle hb), hhist,
      Bool.toNat_false]
    omega

/-- `HIST_OVF` is set by a discard and by nothing else, and only a reset clears it (R22). -/
theorem step_histOvf (hrst : (currentPins s).rst = false) (h : step s = .next t) :
    t.histOvf = (s.histOvf || discardsNow s) := by
  cases step_edgeEffect hrst h with
  | goesOn _ hgoes _ _ _ _ _ hovf _ => simp [hovf, discardsNow_of_goes hgoes]
  | completes f _ hends _ _ _ _ _ hovf _ =>
    rw [hovf, discardsNow_of_ends hends]
    cases histHasRoom Config.params.histDepth s.hist.length <;> simp
  | waits hb _ _ _ hovf _ => simp [hovf, discardsNow_of_goes (completesNow_of_idle hb)]
  | dispatches _ hb _ _ _ hovf _ => simp [hovf, discardsNow_of_goes (completesNow_of_idle hb)]

theorem run_framesHeld {k : Nat} (hnr : NoReset k s) (hrun : run k s = .next t) :
    framesHeld s + (acceptedOver k s).length = framesHeld t + discardedOver k s := by
  induction k generalizing s with
  | zero => cases hrun; rfl
  | succ k ih =>
    obtain ⟨u, hstep, hrun⟩ := run_succ_eq_next hrun
    have hfirst := step_framesHeld (currentPins_rst_of_noReset hnr) hstep
    have hlater := ih (hnr.after_step hstep) hrun
    rw [acceptedOver_succ hstep, discardedOver_succ hstep, List.length_append]
    omega

theorem run_histOvf {k : Nat} (hnr : NoReset k s) (hrun : run k s = .next t) :
    t.histOvf = true ↔ s.histOvf = true ∨ 0 < discardedOver k s := by
  induction k generalizing s with
  | zero => cases hrun; simp [discardedOver]
  | succ k ih =>
    obtain ⟨u, hstep, hrun⟩ := run_succ_eq_next hrun
    rw [ih (hnr.after_step hstep) hrun, discardedOver_succ hstep,
      step_histOvf (currentPins_rst_of_noReset hnr) hstep]
    cases discardsNow s <;> simp

end

/-- Settles O50: the balance of the run, from a reset state that holds nothing with `HIST_OVF = 0`. -/
theorem acceptedFramesAreConserved : Obligations.AcceptedFramesAreConserved := by
  intro k pins t hnr hrun
  refine ⟨?balance, ?overflow⟩
  case balance =>
    have hempty : framesHeld { State.reset with inputs := pins } = 0 := rfl
    have hbalance := run_framesHeld hnr hrun
    rw [hempty, Nat.zero_add] at hbalance
    exact hbalance
  case overflow =>
    have hovf := run_histOvf hnr hrun
    rw [hovf]
    exact ⟨.inr, fun h => h.resolve_left Bool.false_ne_true⟩

end Sys2Proof.Machine
end

section
/-! PROOFS. The run state and `BIT_TIME` across an edge: which access changes them, and the edges with a frame in
flight. -/

namespace Sys2Proof.Machine

/-! ### What a host access does to the run state and to `BIT_TIME` -/

section
variable {c : Config} {p : Pins} {s t : State}

@[simp] theorem readEffect_runState (o : Byte) (s : State) : (readEffect o s).runState = s.runState := by
  unfold readEffect; split <;> rfl

@[simp] theorem readEffect_bitTime (o : Byte) (s : State) : (readEffect o s).bitTime = s.bitTime := by
  unfold readEffect; split <;> rfl

/-- Only a write of `CMD` can change the run state (R93). -/
theorem writeEffect_runState {o : Byte} (v : Word) (s : State) (ho : o ≠ 0x10) :
    (writeEffect c o v s).runState = s.runState := by
  unfold writeEffect
  split
  case h_5 hcmd => exact absurd (BitVec.eq_of_toNat_eq hcmd) ho
  all_goals rfl

@[simp] theorem performCommand_bitTime (v : Word) (s : State) : (performCommand c v s).bitTime = s.bitTime := by
  rcases performCommand_cases c v s with h | h | h | h | h <;> simp [h]

/-- Only a write of `BIT_TIME` changes it (R93). -/
theorem writeEffect_bitTime {o : Byte} (v : Word) (s : State) (ho : o ≠ 0x1C) :
    (writeEffect c o v s).bitTime = s.bitTime := by
  unfold writeEffect
  split
  case h_5 => exact performCommand_bitTime v s
  case h_6 hbitTime => exact absurd (BitVec.eq_of_toNat_eq hbitTime) ho
  all_goals rfl

/-- A host access is a write effect, or a read with its side effect, or nothing (R46, R92, R93). -/
theorem hostAccess_port (h : hostAccess p s = .next t) :
    (p.req = true ∧ p.we = true ∧ t = writeEffect Config.params (wordOffset p.addr) p.wdata s) ∨
      (∃ o d, t = readEffect o (returnData d s)) ∨ t = s := by
  rcases hostAccess_cases h with ⟨hreq, he⟩ | ⟨-, rfl⟩
  · cases hwe : p.we with
    | true =>
      have hdec : decodeAccess p.access = decodeWrite (wordOffset p.addr) p.wdata := if_pos hwe
      rw [hdec, exec_decodeWrite_wordOffset] at he
      cases he
      exact .inl ⟨hreq, rfl, rfl⟩
    | false =>
      have hdec : decodeAccess p.access = decodeRead (wordOffset p.addr) :=
        if_neg (by simp [Pins.access, hwe])
      rw [hdec, exec_decodeRead_wordOffset, readAccess] at he
      split at he
      · cases he; exact .inr (.inl ⟨_, _, rfl⟩)
      · cases he
  · exact .inr (.inr rfl)

/-- Only STOP takes a running block out of RUNNING (R88). -/
theorem performCommand_running (v : Word) (hop : opcodeField v ≠ 0x2) (hr : s.runState = .running) :
    (performCommand c v s).runState = .running := by
  rw [performCommand_eq, if_neg (c := opcodeField v = 2) hop]
  split
  · exact hr
  split
  · rw [startCommand_of_running hr]; exact hr
  split
  · exact hr
  · exact hr

/-- A running block stays RUNNING through an access that is not STOP (R23). -/
theorem hostAccess_running (hrst : p.rst = false) (hstop : p.commands 0x2 = false) (hr : s.runState = .running)
    (h : hostAccess p s = .next t) : t.runState = .running := by
  rcases hostAccess_port h with ⟨hreq, hwe, rfl⟩ | ⟨o, d, rfl⟩ | rfl
  · by_cases ho : wordOffset p.addr = 0x10
    · have hop : opcodeField p.wdata ≠ 0x2 := by
        intro hop
        simp [Pins.commands, hrst, hreq, hwe, ho, hop] at hstop
      rw [ho]
      exact performCommand_running p.wdata hop hr
    · rw [writeEffect_runState p.wdata s ho, hr]
  · simpa using hr
  · exact hr

/-- A stopping block stays STOPPING through every access: START is refused, STOP repeats itself (R87, R88). -/
theorem hostAccess_stopping (hr : s.runState = .stopping) (h : hostAccess p s = .next t) : t.runState = .stopping := by
  rcases hostAccess_cases h with ⟨-, he⟩ | ⟨-, rfl⟩
  · rcases exec_runState he with hsame | ⟨hstopped, -⟩ | ⟨hrunning, -⟩
    · exact hsame.trans hr
    · simp [hr] at hstopped
    · simp [hr] at hrunning
  · exact hr

theorem hostAccess_bitTime (hrst : p.rst = false) (hwrite : p.writesBitTime = false) (h : hostAccess p s = .next t) :
    t.bitTime = s.bitTime := by
  rcases hostAccess_port h with ⟨hreq, hwe, rfl⟩ | ⟨o, d, rfl⟩ | rfl
  · refine writeEffect_bitTime p.wdata s fun ho => ?_
    simp [Pins.writesBitTime, hrst, hreq, hwe, ho] at hwrite
  · simp
  · rfl

/-! ### Edges with a frame in flight -/

/-- With a frame in flight the sequencer step leaves the run state as it is (R110). -/
theorem seqStep_runState_of_busy (hb : s.busy = true) (h : seqStep c s = .next t) : t.runState = s.runState := by
  rcases seqStep_cases h with ⟨-, -, rfl⟩ | ⟨-, -, f, bits, b, -, -, -, rfl⟩ | ⟨-, -, f, bits, -, -, -, rfl⟩ |
    ⟨hidle, -⟩ | ⟨-, -, f, rest, bits, -, -, rfl⟩ | ⟨-, -, rfl⟩
  case inr.inr.inr.inl => simp [hb] at hidle
  all_goals rfl

/-- At an edge with a frame in flight the run state is what the host access leaves (R107, R110). -/
theorem step_runState_of_busy (hb : s.busy = true) (hrst : (currentPins s).rst = false) (h : step s = .next t) :
    ∃ s1, hostAccess (currentPins s) (beginEdge s) = .next s1 ∧ t.runState = s1.runState := by
  rcases step_cases h with ⟨hrst', -⟩ | ⟨-, s1, s2, haccess, hseq, rfl⟩
  · simp [hrst] at hrst'
  · obtain ⟨-, hbusy, -⟩ := hostAccess_frame haccess
    exact ⟨s1, haccess, seqStep_runState_of_busy (t := s2) (hbusy.trans hb) hseq⟩

theorem step_bitTime (hrst : (currentPins s).rst = false) (hwrite : (currentPins s).writesBitTime = false)
    (h : step s = .next t) : t.bitTime = s.bitTime := by
  rcases step_cases h with ⟨hrst', -⟩ | ⟨-, s1, s2, haccess, hseq, rfl⟩
  · simp [hrst] at hrst'
  obtain ⟨-, -, -, -, -, -, hbitTime, -⟩ := seqStep_frame hseq
  rw [tick_bitTime, hbitTime, hostAccess_bitTime hrst hwrite haccess, beginEdge_bitTime]

/-- No edge takes a frame from the queue while one is in flight (R109). -/
theorem step_queue_of_busy (hb : s.busy = true) (hrst : (currentPins s).rst = false) (h : step s = .next t) :
    s.queue <+: t.queue := by
  have hprefix : s.queue <+: offeredQueue s := List.prefix_append _ _
  cases step_edgeEffect hrst h with
  | goesOn _ _ _ _ _ _ _ _ hqueue => rw [hqueue]; exact hprefix
  | completes _ _ _ _ _ _ _ _ _ hqueue => rw [hqueue]; exact hprefix
  | waits hidle _ _ _ _ _ => simp [hb] at hidle
  | dispatches _ hidle _ _ _ _ _ => simp [hb] at hidle

end

end Sys2Proof.Machine
end

section
/-! PROOFS. A transmission, from its dispatch to its completion (O45). -/

namespace Sys2Proof.Machine

/-! ### A transmission -/

/-- A transmission (R119): the frame, its bits, its bit period, and the history that its completion finds. -/
structure Transmission where
  frame : FrameRecord
  bits : List Bit
  period : Nat
  hist : List FrameRecord

/-- The edges from the dispatch to the completion: `L * P` (R119). -/
def Transmission.edges (x : Transmission) : Nat := x.bits.length * x.period

/-- Transmission `x` is under way in `s`, `e` edges after its dispatch: `BITPOS` whole bits have passed, and of the
next one all but `BITCNT` edges (R112 to R114). -/
structure State.Sends (x : Transmission) (e : Nat) (s : State) : Prop where
  busy : s.busy = true
  txf : s.txf = some x.frame
  enc : encodeFrame x.frame = .ok x.bits
  level : x.bits[s.bitPos.toNat]? = some s.level
  period : s.period.toNat = x.period
  bitCnt_pos : 1 ≤ s.bitCnt.toNat
  bitCnt_le : s.bitCnt.toNat ≤ x.period
  clock : e + s.bitCnt.toNat = (s.bitPos.toNat + 1) * x.period
  hist : s.hist = x.hist

/-- Transmission `x` is over in `s` (R115). -/
structure State.Sent (x : Transmission) (s : State) : Prop where
  busy : s.busy = false
  txf : s.txf = none
  level : s.level = recessive
  hist : s.hist = if histHasRoom Config.params.histDepth x.hist.length then x.hist ++ [x.frame] else x.hist

section
variable {x : Transmission} {e : Nat} {s t : State}

theorem State.Sends.bitPos_lt (h : s.Sends x e) : s.bitPos.toNat < x.bits.length :=
  (List.getElem?_eq_some_iff.1 h.level).1

theorem State.Sends.lt_edges (h : s.Sends x e) : e < x.edges := by
  have hle : (s.bitPos.toNat + 1) * x.period ≤ x.edges := Nat.mul_le_mul_right x.period h.bitPos_lt
  have hclock := h.clock
  have hpos := h.bitCnt_pos
  omega

/-- After `i * P + j` edges the transmission is at bit `i`, with `P - j` edges of it left (R119). -/
theorem State.Sends.position {i j : Nat} (h : s.Sends x (i * x.period + j)) (hj : j < x.period) :
    s.bitPos.toNat = i ∧ s.bitCnt.toNat = x.period - j := by
  have hclock := h.clock
  have hpos := h.bitCnt_pos
  have hle := h.bitCnt_le
  have hbit : s.bitPos.toNat = i := by
    rcases Nat.lt_trichotomy s.bitPos.toNat i with hlt | heq | hgt
    · have hmul : (s.bitPos.toNat + 1) * x.period ≤ i * x.period := Nat.mul_le_mul_right _ hlt
      omega
    · exact heq
    · have hmul : (i + 2) * x.period ≤ (s.bitPos.toNat + 1) * x.period := Nat.mul_le_mul_right _ (by omega)
      rw [Nat.add_mul] at hmul
      omega
  rw [hbit, Nat.add_mul] at hclock
  exact ⟨hbit, by omega⟩

/-- A host access and the start of an edge touch nothing of a transmission (R117). -/
theorem State.Sends.after_hostAccess (h : s.Sends x e) {p : Pins} (haccess : hostAccess p (beginEdge s) = .next t) :
    t.Sends x e := by
  obtain ⟨hlevel, hbusy, htxf, hpos, hcnt, hperiod, hhist, -, -, -⟩ := hostAccess_frame haccess
  refine ⟨hbusy.trans h.busy, htxf.trans h.txf, h.enc, ?_, ?_, ?_, ?_, ?_, hhist.trans h.hist⟩
  · rw [hpos, hlevel]; exact h.level
  · rw [hperiod]; exact h.period
  · rw [hcnt]; exact h.bitCnt_pos
  · rw [hcnt]; exact h.bitCnt_le
  · rw [hcnt, hpos]; exact h.clock

theorem State.Sends.after_tick (h : s.Sends x e) : (tick s).Sends x e :=
  ⟨h.busy, h.txf, h.enc, h.level, h.period, h.bitCnt_pos, h.bitCnt_le, h.clock, h.hist⟩

/-- Before its last edge a transmission is one edge further after the sequencer step (R113, R114). -/
theorem State.Sends.seqStep_next {c : Config} (h : s.Sends x e) (he : e + 1 < x.edges) :
    ∃ t, seqStep c s = .next t ∧ t.Sends x (e + 1) := by
  have hclock := h.clock
  have hpos := h.bitCnt_pos
  rcases Nat.lt_or_ge 1 s.bitCnt.toNat with hc | hc
  · have hcnt : (bitHold s).bitCnt.toNat = s.bitCnt.toNat - 1 := by
      rw [bitHold_bitCnt]
      bv_omega
    have hle := h.bitCnt_le
    refine ⟨bitHold s, seqStep_of_bitHold h.busy hc,
      ⟨h.busy, h.txf, h.enc, h.level, h.period, by omega, by omega, ?_, h.hist⟩⟩
    rw [hcnt, bitHold_bitPos]
    omega
  · have hone : s.bitCnt.toNat = 1 := by omega
    have hlt : s.bitPos.toNat + 1 < x.bits.length := by
      rw [hone] at hclock
      rw [hclock] at he
      exact Nat.lt_of_mul_lt_mul_right he
    have hnext := bitPos_add_one_toNat h.enc hlt
    have hperiod : (bitAdvance x.bits[s.bitPos.toNat + 1] s).bitCnt.toNat = x.period := h.period
    refine ⟨bitAdvance x.bits[s.bitPos.toNat + 1] s,
      seqStep_of_bitAdvance h.busy hc h.txf h.enc (List.getElem?_eq_getElem hlt),
      ⟨h.busy, h.txf, h.enc, ?_, h.period, ?_, hperiod.le, ?_, h.hist⟩⟩
    · rw [bitAdvance_bitPos, bitAdvance_level, hnext]
      exact List.getElem?_eq_getElem hlt
    · rw [hperiod]; exact hpos.trans h.bitCnt_le
    · rw [hperiod, bitAdvance_bitPos, hnext, Nat.add_mul (s.bitPos.toNat + 1)]
      omega

/-- Its last edge completes a transmission (R115). -/
theorem State.Sends.seqStep_last (h : s.Sends x e) (he : e + 1 = x.edges) :
    ∃ t, seqStep Config.params s = .next t ∧ t.Sent x := by
  have hclock := h.clock
  have hpos := h.bitCnt_pos
  have hlen : x.bits.length ≤ s.bitPos.toNat + 1 := by
    by_contra hlt
    have hmul : (s.bitPos.toNat + 2) * x.period ≤ x.edges := Nat.mul_le_mul_right _ (by omega)
    have hle := h.bitCnt_le
    rw [Nat.add_mul] at hmul hclock
    omega
  have hmul : (s.bitPos.toNat + 1) * x.period ≤ x.edges := Nat.mul_le_mul_right _ h.bitPos_lt
  refine ⟨complete Config.params x.frame s, seqStep_of_completion h.busy (by omega) h.txf h.enc hlen, rfl, rfl, rfl, ?_⟩
  rw [complete_hist, h.hist]

theorem State.Sends.hostAccess_completes (h : s.Sends x e) (p : Pins) :
    ∃ t, hostAccess p (beginEdge s) = .next t :=
  hostAccess_completes_of_inFlight (s := beginEdge s) h.busy h.txf h.enc

theorem State.Sends.step_next (h : s.Sends x e) (hrst : (currentPins s).rst = false) (he : e + 1 < x.edges) :
    ∃ t, step s = .next t ∧ t.Sends x (e + 1) := by
  obtain ⟨s1, haccess⟩ := h.hostAccess_completes (currentPins s)
  obtain ⟨s2, hseq, hsends⟩ := (h.after_hostAccess haccess).seqStep_next he
  exact ⟨tick s2, step_of_parts hrst haccess hseq, hsends.after_tick⟩

theorem State.Sends.step_last (h : s.Sends x e) (hrst : (currentPins s).rst = false) (he : e + 1 = x.edges) :
    ∃ t, step s = .next t ∧ t.Sent x := by
  obtain ⟨s1, haccess⟩ := h.hostAccess_completes (currentPins s)
  obtain ⟨s2, hseq, hsent⟩ := (h.after_hostAccess haccess).seqStep_last he
  exact ⟨tick s2, step_of_parts hrst haccess hseq, hsent.busy, hsent.txf, hsent.level, hsent.hist⟩

/-- At pins that satisfy `A` no edge resets, and every edge with a frame in flight keeps `Q`. -/
structure KeepsInFlight (A : Pins → Prop) (Q : State → Prop) : Prop where
  idle : A idlePins
  noReset : ∀ p, A p → p.rst = false
  step : ∀ s t, s.busy = true → A (currentPins s) → step s = .next t → Q s → Q t

theorem keepsInFlight_true : KeepsInFlight (fun p => p.rst = false) fun _ => True :=
  ⟨rfl, fun _ => id, fun _ _ _ _ _ _ => trivial⟩

section
variable {A : Pins → Prop} {Q : State → Prop} {k : Nat}

/-- Until its last edge a transmission is `k` edges further after a run of `k` (R119). -/
theorem State.Sends.run_next (hA : KeepsInFlight A Q) (h : s.Sends x e) (hQ : Q s) (hpins : ∀ p ∈ s.inputs.take k, A p)
    (hk : e + k < x.edges) : ∃ t, run k s = .next t ∧ t.Sends x (e + k) ∧ Q t := by
  induction k generalizing s e with
  | zero => exact ⟨s, rfl, h, hQ⟩
  | succ k ih =>
    have hnow := currentPins_of_forall_mem hA.idle hpins
    obtain ⟨t, hstep, hsends⟩ := h.step_next (hA.noReset _ hnow) (by omega)
    have hsum : e + 1 + k = e + (k + 1) := by omega
    rw [run_succ_of_step hstep, ← hsum]
    exact ih hsends (hA.step s t h.busy hnow hstep hQ) (forall_mem_take_after_step hpins hstep) (hsum ▸ hk)

/-- The run to the last edge ends with the transmission over (R119). -/
theorem State.Sends.run_last (hA : KeepsInFlight A Q) (h : s.Sends x e) (hQ : Q s) (hpins : ∀ p ∈ s.inputs.take k, A p)
    (hk : e + k = x.edges) : ∃ t, run k s = .next t ∧ t.Sent x ∧ Q t := by
  have hlt := h.lt_edges
  obtain ⟨n, rfl⟩ : ∃ n, k = n + 1 := ⟨k - 1, by omega⟩
  obtain ⟨t, hrun, hsends, hQt⟩ :=
    h.run_next hA hQ (forall_mem_take_mono (Nat.le_succ n) hpins) (by omega)
  have hnow := currentPins_of_forall_mem hA.idle (forall_mem_take_after_run hpins hrun)
  obtain ⟨u, hstep, hsent⟩ := hsends.step_last (hA.noReset _ hnow) (by omega)
  refine ⟨u, ?_, hsent, hA.step t u hsends.busy hnow hstep hQt⟩
  rw [run_add hrun, run_succ_of_step hstep, run_zero]

end

end

/-- A state as a dispatch leaves it is at the start of its transmission (R109). -/
theorem sends_zero {s : State} {f : FrameRecord} {bits : List Bit} (hb : s.busy = true) (htxf : s.txf = some f)
    (henc : encodeFrame f = .ok bits) (hpos : s.bitPos = 0) (hlevel : s.level = dominant)
    (hperiod : 1 ≤ s.period.toNat) (hcnt : s.bitCnt = s.period) : s.Sends ⟨f, bits, s.period.toNat, s.hist⟩ 0 where
  busy := hb
  txf := htxf
  enc := henc
  level := by
    obtain ⟨-, rfl⟩ := encodeFrame_ok_iff.1 henc
    rw [hpos, hlevel]
    exact frameBits_zero f
  period := rfl
  bitCnt_pos := hcnt ▸ hperiod
  bitCnt_le := hcnt ▸ Nat.le_refl _
  clock := by simp [hpos, hcnt]
  hist := rfl

/-- Settles O45: the position in the transmission after each run, and its end. -/
theorem everyBitLastsThePeriod : Obligations.EveryBitLastsThePeriod := by
  intro s f bits hb htxf henc hpos hlevel hperiod hcnt
  have hsends := sends_zero hb htxf henc hpos hlevel hperiod hcnt
  refine ⟨fun i j hi hj hnr => ?bit, fun hnr => ?completion⟩
  case bit =>
    have hlt : 0 + (i * s.period.toNat + j) < bits.length * s.period.toNat := by
      have hmul : (i + 1) * s.period.toNat ≤ bits.length * s.period.toNat := Nat.mul_le_mul_right _ hi
      rw [Nat.add_mul] at hmul
      omega
    obtain ⟨t, hrun, ht, -⟩ := hsends.run_next keepsInFlight_true trivial hnr hlt
    rw [Nat.zero_add] at ht
    obtain ⟨hti, htj⟩ := ht.position hj
    have hbit := ht.level
    rw [hti] at hbit
    exact ⟨t, hrun, ht.busy, ht.txf, hti, (List.getElem_eq_iff hi).2 hbit |>.symm, htj⟩
  case completion =>
    obtain ⟨t, hrun, ht, -⟩ := hsends.run_last keepsInFlight_true trivial hnr (Nat.zero_add _)
    exact ⟨t, hrun, ht.busy, ht.txf, ht.level, ht.hist⟩

end Sys2Proof.Machine
end

section
/-! PROOFS. How long a stop takes (O47), what follows a completion (O46), and how long a queue takes (O52). -/

namespace Sys2Proof.Machine

/-! ### A pending stop -/

section
variable {s t : State}

/-- In a good state a frame in flight is some way into its transmission (R26 (b)). -/
theorem State.Good.sends (h : s.Good Config.params) (hb : s.busy = true) :
    ∃ x e, s.Sends x e ∧ x.edges ≤ 125 * s.period.toNat := by
  obtain ⟨f, bits, htxf, henc, hlevel, hpos, hle⟩ := h.inFlight hb
  obtain ⟨-, hlen⟩ := encodeFrame_length_bounds henc
  have hmul : s.period.toNat ≤ (s.bitPos.toNat + 1) * s.period.toNat := Nat.le_mul_of_pos_left _ (Nat.succ_pos _)
  exact ⟨⟨f, bits, s.period.toNat, s.hist⟩, (s.bitPos.toNat + 1) * s.period.toNat - s.bitCnt.toNat,
    ⟨hb, htxf, henc, hlevel, rfl, hpos, hle, Nat.sub_add_cancel (hle.trans hmul), rfl⟩,
    Nat.mul_le_mul_right _ hlen⟩

/-- While a frame is in flight, no access ends a pending stop or takes a frame from the queue (R121). -/
theorem keepsInFlight_stopping (q : List FrameRecord) :
    KeepsInFlight (fun p => p.rst = false) fun t => t.runState = .stopping ∧ q <+: t.queue where
  idle := rfl
  noReset _ := id
  step s t hb hrst hstep hQ := by
    obtain ⟨hr, hq⟩ := hQ
    obtain ⟨s1, haccess, hr'⟩ := step_runState_of_busy hb hrst hstep
    exact ⟨hr'.trans (hostAccess_stopping (s := beginEdge s) hr haccess), hq.trans (step_queue_of_busy hb hrst hstep)⟩

/-- The first idle edge of a stopping block stops it, with nothing dispatched (R110). -/
theorem step_of_stopping_idle (hr : s.runState = .stopping) (hb : s.busy = false)
    (hrst : (currentPins s).rst = false) :
    ∃ t, step s = .next t ∧ t.busy = false ∧ t.runState = .stopped ∧ s.queue <+: t.queue := by
  obtain ⟨s1, haccess⟩ := hostAccess_completes_of_idle (p := currentPins s) (s := beginEdge s) hb
  obtain ⟨-, hbusy, -⟩ := hostAccess_frame haccess
  have hb1 : s1.busy = false := hbusy.trans hb
  have hr1 : s1.runState = .stopping := hostAccess_stopping (s := beginEdge s) hr haccess
  refine ⟨_, step_of_parts hrst haccess (seqStep_of_stopping_idle hb1 hr1), hb1, rfl, ?_⟩
  exact ⟨_, (hostAccess_queue hrst haccess).symm⟩

end

/-- Settles O47: the rest of the transmission, and the idle edge after it. -/
theorem stopLatencyIsBounded : Obligations.StopLatencyIsBounded := by
  intro s hgood hr hb hnr
  obtain ⟨x, e, hsends, hmax⟩ := hgood.sends hb
  have hlt := hsends.lt_edges
  have hkeeps := keepsInFlight_stopping s.queue
  have hQ : s.runState = .stopping ∧ s.queue <+: s.queue := ⟨hr, List.prefix_refl _⟩
  have hnr' : NoReset (x.edges - e + 1) s := forall_mem_take_mono (by omega) hnr
  obtain ⟨t, hrun, hsent, hrt, hqt⟩ := hsends.run_last hkeeps hQ
    (forall_mem_take_mono (Nat.le_succ _) hnr') (Nat.add_sub_cancel' hlt.le)
  refine ⟨x.edges - e, by omega, by omega, fun k hk => ?inFlight, ⟨t, hrun, hsent.busy, hrt⟩, ?stopped⟩
  case inFlight =>
    obtain ⟨u, hrun, hu, hru, -⟩ := hsends.run_next (k := k) hkeeps hQ (forall_mem_take_mono (by omega) hnr') (by omega)
    exact ⟨u, hrun, hu.busy, hu.txf.trans hsends.txf.symm, hru⟩
  case stopped =>
    have hrst := currentPins_rst_of_noReset (forall_mem_take_after_run hnr' hrun)
    obtain ⟨u, hstep, hbu, hru, hqu⟩ := step_of_stopping_idle hrt hsent.busy hrst
    refine ⟨u, ?_, hbu, hru, hqt.trans hqu⟩
    rw [run_add hrun, run_succ_of_step hstep, run_zero]

/-! ### Back to back -/

section
variable {s t : State}

/-- A running idle block without STOP dispatches the head of its queue (R109). -/
theorem step_dispatches {f : FrameRecord} {rest : List FrameRecord} (hgood : s.Good Config.params)
    (hr : s.runState = .running) (hb : s.busy = false) (hq : s.queue = f :: rest)
    (hrst : (currentPins s).rst = false) (hstop : (currentPins s).commands 0x2 = false) :
    ∃ t, step s = .next t ∧ t.Sends ⟨f, frameBits f, max 1 t.bitTime.toNat, s.hist⟩ 0 ∧ t.bitPos = 0 ∧
      t.level = dominant ∧ t.runState = .running ∧ rest <+: t.queue := by
  obtain ⟨hvalid, -⟩ := hgood.records f (mem_pipeline.2 (.inr (.inr (by simp [hq]))))
  obtain ⟨s1, haccess⟩ := hostAccess_completes_of_idle (p := currentPins s) (s := beginEdge s) hb
  obtain ⟨-, hbusy, -, -, -, -, hhist, -, -, -⟩ := hostAccess_frame haccess
  have hq1 : s1.queue = f :: (rest ++ (acceptedNow s).toList) := by rw [hostAccess_queue hrst haccess, hq]; rfl
  have hr1 : s1.runState = .running := hostAccess_running (s := beginEdge s) hrst hstop hr haccess
  have hseq := seqStep_dispatches (c := Config.params) (hbusy.trans hb) hr1 hq1 hvalid
  rw [frameBits_head] at hseq
  refine ⟨_, step_of_parts hrst haccess hseq, ?_, rfl, rfl, hr1, List.prefix_append _ _⟩
  have hsends := sends_zero (s := tick (dispatch f (rest ++ (acceptedNow s).toList) dominant s1)) rfl rfl
    (encodeFrame_of_valid hvalid) rfl rfl (bitPeriod_pos s1.bitTime) rfl
  rw [tick_period, dispatch_period, bitPeriod_toNat, tick_hist, dispatch_hist, hhist] at hsends
  exact hsends

/-- A running block stays RUNNING through an edge with a frame in flight and without STOP (R88, R110). -/
theorem step_running_of_busy (hr : s.runState = .running) (hb : s.busy = true) (hrst : (currentPins s).rst = false)
    (hstop : (currentPins s).commands 0x2 = false) (h : step s = .next t) : t.runState = .running := by
  obtain ⟨s1, haccess, hr'⟩ := step_runState_of_busy hb hrst h
  exact hr'.trans (hostAccess_running (s := beginEdge s) hrst hstop hr haccess)

end

/-- Settles O46: the completion leaves a running idle block, whose queue still begins with the next frame. -/
theorem backToBackFramesHaveOneIdleEdge : Obligations.BackToBackFramesHaveOneIdleEdge := by
  intro s g rest hgood hr hends hq hnr hns
  have hrst := currentPins_rst_of_noReset hnr
  obtain ⟨t, hstep⟩ := hgood.step_completes
  have hgood' := everyStepKeepsGoodState s t hgood hstep
  have hstop := currentPins_of_forall_mem (P := fun p => p.commands 0x2 = false) rfl hns
  cases step_edgeEffect hrst hstep with
  | goesOn _ hgoes _ _ _ _ _ _ _ => simp [hends] at hgoes
  | waits hidle _ _ _ _ _ => simp [completesNow_of_idle hidle] at hends
  | dispatches _ hidle _ _ _ _ _ => simp [completesNow_of_idle hidle] at hends
  | completes f hb _ _ hb' _ _ _ _ hqueue =>
    have hrt := step_running_of_busy hr hb hrst hstop hstep
    have hqt : t.queue = g :: (rest ++ (acceptedNow s).toList) := by rw [hqueue, offeredQueue, hq]; rfl
    obtain ⟨u, hstep', hu, hpos, hlevel, -, -⟩ := step_dispatches hgood' hrt hb' hqt
      (currentPins_rst_of_noReset (hnr.after_step hstep))
      (currentPins_of_forall_mem (P := fun p => p.commands 0x2 = false) rfl (forall_mem_take_after_step hns hstep))
    obtain ⟨hlevel', -⟩ := hgood'.idle hb'
    exact ⟨t, u, hstep, hb', hlevel', hstep', hu.busy, hu.txf, hlevel, hpos⟩

/-! ### Draining the queue -/

/-- Pins that neither reset, nor stop, nor write `BIT_TIME` (R125). -/
def Pins.LetsRun (p : Pins) : Prop := p.rst = false ∧ p.commands 0x2 = false ∧ p.writesBitTime = false

/-- A running block with bit time `b`, whose queue still begins with `q`. -/
def RunsWith (b : Word) (q : List FrameRecord) (s : State) : Prop :=
  s.runState = .running ∧ s.bitTime = b ∧ q <+: s.queue

theorem keepsInFlight_runsWith (b : Word) (q : List FrameRecord) : KeepsInFlight Pins.LetsRun (RunsWith b q) where
  idle := ⟨rfl, rfl, rfl⟩
  noReset p hp := hp.1
  step s t hb hpins hstep hQ := by
    obtain ⟨hr, hbitTime, hq⟩ := hQ
    obtain ⟨hrst, hstop, hwrite⟩ := hpins
    exact ⟨step_running_of_busy hr hb hrst hstop hstep, (step_bitTime hrst hwrite hstep).trans hbitTime,
      hq.trans (step_queue_of_busy hb hrst hstep)⟩

section
variable {s : State} {f : FrameRecord} {fs : List FrameRecord} {b : Word}

/-- The dispatch and the transmission of the first queued frame take `L * P + 1` edges (R119, R120). -/
theorem run_sends_head {q : List FrameRecord} (hgood : s.Good Config.params) (hruns : RunsWith b (f :: q) s)
    (hb : s.busy = false)
    (hpins : ∀ p ∈ s.inputs.take ((frameBits f).length * max 1 b.toNat + 1), p.LetsRun) :
    ∃ t, run ((frameBits f).length * max 1 b.toNat + 1) s = .next t ∧
      t.Sent ⟨f, frameBits f, max 1 b.toNat, s.hist⟩ ∧ RunsWith b q t := by
  obtain ⟨hr, hbitTime, newer, hq⟩ := hruns
  obtain ⟨hrst, hstop, hwrite⟩ := currentPins_of_forall_mem (P := Pins.LetsRun) ⟨rfl, rfl, rfl⟩ hpins
  obtain ⟨t, hstep, hsends, -, -, hrt, hqt⟩ := step_dispatches hgood hr hb hq.symm hrst hstop
  have hbitTime' : t.bitTime = b := (step_bitTime hrst hwrite hstep).trans hbitTime
  rw [hbitTime'] at hsends
  rw [run_succ_of_step hstep]
  exact hsends.run_last (keepsInFlight_runsWith b q) ⟨hrt, hbitTime', (List.prefix_append q newer).trans hqt⟩
    (forall_mem_take_after_step hpins hstep) (Nat.zero_add _)

/-- What fits a history after one completion and then those of `fs` is what fits after all of them (R22). -/
theorem keptBy_cons {d : Depth} {hist : List FrameRecord} :
    keptBy d ((if histHasRoom d hist.length then hist ++ [f] else hist) ++ fs) = keptBy d (hist ++ f :: fs) := by
  cases hroom : histHasRoom d hist.length with
  | true => rw [if_pos rfl, List.append_assoc, List.singleton_append]
  | false =>
    rw [if_neg Bool.false_ne_true]
    cases d with
    | unbounded => simp [histHasRoom] at hroom
    | bounded n _ _ =>
      have hfull : n ≤ hist.length := by simpa [histHasRoom] using hroom
      rw [keptBy, keptBy, List.take_append_of_le_length hfull, List.take_append_of_le_length hfull]

theorem keptBy_of_fitsDepth {d : Depth} {hist : List FrameRecord} (h : fitsDepth d hist.length) :
    keptBy d hist = hist := by
  cases d with
  | unbounded => rfl
  | bounded n _ _ => exact List.take_of_length_le h

theorem edgesToSend_cons (p : Nat) (f : FrameRecord) (fs : List FrameRecord) :
    edgesToSend p (f :: fs) = (frameBits f).length * p + 1 + edgesToSend p fs := by
  simp [edgesToSend]

/-- The frames `fs` at the head of the queue, one after another (R125). -/
theorem run_sends_frames {rest : List FrameRecord} (hgood : s.Good Config.params) (hruns : RunsWith b (fs ++ rest) s)
    (hb : s.busy = false) (hpins : ∀ p ∈ s.inputs.take (edgesToSend (max 1 b.toNat) fs), p.LetsRun) :
    ∃ t, run (edgesToSend (max 1 b.toNat) fs) s = .next t ∧ t.busy = false ∧
      t.hist = keptBy Config.params.histDepth (s.hist ++ fs) ∧ RunsWith b rest t := by
  induction fs generalizing s with
  | nil => exact ⟨s, rfl, hb, by rw [List.append_nil, keptBy_of_fitsDepth hgood.histFits], hruns⟩
  | cons f fs ih =>
    rw [edgesToSend_cons] at hpins ⊢
    obtain ⟨t, hrun, hsent, hrunsT⟩ := run_sends_head hgood hruns hb (forall_mem_take_mono (Nat.le_add_right _ _) hpins)
    obtain ⟨u, hrun', hbu, hhist, hrunsU⟩ :=
      ih (hgood.after_run hrun) hrunsT hsent.busy (forall_mem_take_after_run hpins hrun)
    refine ⟨u, ?_, hbu, ?_, hrunsU⟩
    · rw [run_add hrun, hrun']
    · rw [hhist, hsent.hist, keptBy_cons]

end

/-- Settles O52: frame by frame, each dispatched at the idle edge before it. -/
theorem queuedFramesDrainInBoundedTime : Obligations.QueuedFramesDrainInBoundedTime := by
  intro s fs rest hgood hr hb hq hpins
  obtain ⟨t, hrun, hbt, hhist, hrt, -, hqt⟩ :=
    run_sends_frames hgood ⟨hr, rfl, [], (List.append_nil _).trans hq.symm⟩ hb hpins
  exact ⟨t, hrun, hbt, hrt, hhist, hqt⟩

end Sys2Proof.Machine
end

section
/-! PROOFS. Events at the same edge (O53): the edge of ENQUEUE and the edge of a completion. -/

namespace Sys2Proof.Machine

section
variable {c : Config} {s s1 : State} {f : FrameRecord} {rest : List FrameRecord}

/-! ### ENQUEUE before the sequencer step -/

theorem step_of_enqueue (h : (currentPins s).commands 0x3 = true) :
    step s = andThen (seqStep Config.params (enqueueCommand Config.params (beginEdge s)))
      fun t => .next (tick t) := by
  obtain ⟨hop, -⟩ := hostAccess_of_commands h s
  rw [step_of_commands h, performCommand_of_opcode_enqueue _ _ hop]

/-- The sequencer step finds the queue as ENQUEUE leaves it (R107, R109). -/
theorem seqStep_enqueueCommand_dispatches (hr : s.runState = .running) (hb : s.busy = false)
    (hq : (enqueueCommand c s).queue = f :: rest) (hf : f.Valid) :
    seqStep c (enqueueCommand c s) = .next (dispatch f rest dominant (enqueueCommand c s)) := by
  have hseq := seqStep_dispatches (c := c) (s := enqueueCommand c s) hb hr hq hf
  rwa [frameBits_head] at hseq

/-- An ENQUEUE accepted by a running idle block with an empty queue is dispatched at its own edge (R132 (a)). -/
theorem step_of_enqueue_dispatches (hcmd : (currentPins s).commands 0x3 = true) (hr : s.runState = .running)
    (hb : s.busy = false) (hq : s.queue = []) (hok : enqueueCode Config.params s = .ok) :
    step s = .next (tick (dispatch (makeRecord s) [] dominant (enqueueCommand Config.params (beginEdge s)))) := by
  have hok' : enqueueCode Config.params (beginEdge s) = .ok := hok
  have hqueue : (enqueueCommand Config.params (beginEdge s)).queue = [makeRecord s] := by
    rw [enqueueCommand_of_ok hok', beginEdge_queue, hq]
    rfl
  obtain ⟨hvalid, -⟩ := makeRecord_wellMade hok
  rw [step_of_enqueue hcmd, seqStep_enqueueCommand_dispatches (s := beginEdge s) hr hb hqueue hvalid, andThen_next]

/-! ### The host access of a completion edge -/

theorem currentPins_rst_of_completesNow (h : completesNow s = true) : (currentPins s).rst = false := by
  simp only [completesNow, Bool.and_eq_true, Bool.not_eq_true'] at h
  obtain ⟨⟨⟨hrst, -⟩, -⟩, -⟩ := h
  exact hrst

/-- At a completion edge the sequencer step completes, whatever the host access before it did (R117, R132). -/
theorem step_of_completesNow (hends : completesNow s = true)
    (haccess : hostAccess (currentPins s) (beginEdge s) = .next s1) :
    ∃ f, step s = .next (tick (complete Config.params f s1)) := by
  have hrst := currentPins_rst_of_completesNow hends
  obtain ⟨hb, hc, f, bits, htxf, henc, hlast⟩ := (completesNow_iff_after_hostAccess hrst haccess).1 hends
  exact ⟨f, step_of_parts hrst haccess (seqStep_of_completion hb hc htxf henc hlast)⟩

/-- STOP at a completion edge of a running block leaves it idle and STOPPING (R132 (d)). -/
theorem step_of_stop_of_completesNow (hcmd : (currentPins s).commands 0x2 = true) (hr : s.runState = .running)
    (hends : completesNow s = true) : ∃ t, step s = .next t ∧ t.busy = false ∧ t.runState = .stopping := by
  obtain ⟨hop, haccess⟩ := hostAccess_of_commands hcmd (beginEdge s)
  have hr' : (beginEdge s).runState = .running := hr
  rw [performCommand_of_opcode_stop _ _ hop, stopCommand_of_running hr'] at haccess
  obtain ⟨f, hstep⟩ := step_of_completesNow hends haccess
  exact ⟨_, hstep, rfl, rfl⟩

/-- ENQUEUE at a completion edge appends what it accepts and dispatches nothing (R132 (e)). -/
theorem step_of_enqueue_of_completesNow (hcmd : (currentPins s).commands 0x3 = true) (hends : completesNow s = true) :
    ∃ t, step s = .next t ∧ t.busy = false ∧ t.queue = s.queue ++ (acceptedNow s).toList := by
  obtain ⟨-, haccess⟩ := hostAccess_of_commands hcmd (beginEdge s)
  obtain ⟨f, hstep⟩ := step_of_completesNow hends haccess
  have hqueue := hostAccess_queue (currentPins_rst_of_completesNow hends) haccess
  exact ⟨_, hstep, rfl, hqueue⟩

end

/-- Settles O53: (b) and (c) are edges of R87 and R88 (O6, O7), and the second edge of (d) is the idle edge of a
stopping block. In (f) the check has seen the full queue before the dispatch takes its head. -/
theorem sameEdgeEventsAreOrdered : Obligations.SameEdgeEventsAreOrdered := by
  obtain ⟨-, hstart, -⟩ := startFollowsRunState
  obtain ⟨-, hstop⟩ := stopFollowsRunState
  refine ⟨fun s hcmd hr hb hq hok => ?enqueue, fun s f rest hcmd hr hb hq hf => ?start, fun s hcmd _ hb => ?stop,
    fun s hcmd hr hends => ?stopAtCompletion, fun s hcmd hends => step_of_enqueue_of_completesNow hcmd hends,
    fun c s f rest hfull hr hb hq hf => ?enqueueFull⟩
  case enqueue => exact ⟨_, step_of_enqueue_dispatches hcmd hr hb hq hok, hok, rfl, rfl, rfl, rfl⟩
  case start =>
    obtain ⟨t, hstep, -, -, hbt, htxf, hqt⟩ := hstart s f rest hcmd (by simp [hr]) hb hq hf
    exact ⟨t, hstep, hbt, htxf, hqt⟩
  case stop =>
    obtain ⟨t, hstep, hrt, -⟩ := hstop s hcmd hb
    exact ⟨t, hstep, hrt⟩
  case stopAtCompletion =>
    obtain ⟨t, hstep, hbt, hrt⟩ := step_of_stop_of_completesNow hcmd hr hends
    refine ⟨t, hstep, hbt, hrt, fun hrst => ?_⟩
    obtain ⟨u, hstep', -, hru, -⟩ := step_of_stopping_idle hrt hbt hrst
    exact ⟨u, hstep', hru⟩
  case enqueueFull =>
    have hqueue : (enqueueCommand c s).queue = f :: rest := by rw [enqueueCommand_of_ne_ok hfull (by decide), hq]
    exact ⟨_, seqStep_enqueueCommand_dispatches hr hb hqueue hf, hfull, rfl, rfl⟩

end Sys2Proof.Machine
end

section
/-! PROOFS. The reset edge (O37), and `rst` held over several edges (O38). -/

namespace Sys2Proof.Machine

section
variable {s : State}

/-- At the block's own parameters the reset event leaves the state after reset, with the schedule kept (R140, log 1). -/
theorem resetEvent_params (s : State) : resetEvent Config.params s = { State.reset with inputs := s.inputs } := rfl

/-- An edge with `rst = 1` is the reset event alone: neither the access presented nor the state matters (R107, R140). -/
theorem step_of_rst (hrst : (currentPins s).rst = true) :
    step s = .next (resetEvent Config.params (beginEdge s)) := by
  rw [step, edge, edgeWith, if_pos hrst]

/-- Where the schedule has not run out, the pins of the coming edge are its first entry (log 1). -/
theorem currentPins_mem_take_succ {k : Nat} (hlen : k + 1 ≤ s.inputs.length) :
    currentPins s ∈ s.inputs.take (k + 1) := by
  unfold currentPins
  cases hin : s.inputs with
  | nil => simp [hin] at hlen
  | cons p rest => simp

/-- The first edge of several with `rst = 1` leaves the state after reset and takes one entry of the schedule (R142). -/
theorem step_of_rst_held {k : Nat} (hlen : k + 1 ≤ s.inputs.length)
    (hheld : ∀ p ∈ s.inputs.take (k + 1), p.rst = true) :
    step s = .next { State.reset with inputs := s.inputs.tail } := by
  rw [step_of_rst (hheld _ (currentPins_mem_take_succ hlen)), resetEvent_params, beginEdge_inputs]

end

/-- Settles O37: the edge is the reset event, whose laws give each element. -/
theorem resetEdgeRestoresResetState : Obligations.ResetEdgeRestoresResetState := by
  intro s hrst
  refine ⟨resetEvent Config.params (beginEdge s), step_of_rst hrst, ?_⟩
  simpa using resetEvent_params (beginEdge s)

/-- Settles O38, by induction over the edges: the first leaves the state after reset, from which `rst` is held over the
edges that remain. -/
theorem resetHeldKeepsResetState : Obligations.ResetHeldKeepsResetState := by
  intro k s hlen hheld
  induction k generalizing s with
  | zero => rw [run_succ_of_step (step_of_rst_held hlen hheld), run_zero, List.drop_one]
  | succ k ih =>
    have hstep := step_of_rst_held hlen hheld
    have hlen' : k + 1 ≤ s.inputs.tail.length := by rw [List.length_tail]; omega
    rw [run_succ_of_step hstep, ih _ hlen' (forall_mem_take_after_step hheld hstep), List.drop_tail]

end Sys2Proof.Machine
end
